-- ==== Sys2Proof/Word.lean ====
section
/-! DEFINITION. The word types of the VR-412: the bytes of frames, 16-bit fields, the 32-bit millisecond
count and 6-bit node addresses (spec/00_scope.md, Conventions; spec/11_frame_and_entry_layouts.md). -/

namespace Sys2Proof

/-- One byte of a frame, a payload or a table entry. -/
abbrev Byte := BitVec 8

/-- A two-byte field, sent most significant byte first (R183). -/
abbrev Half := BitVec 16

/-- The millisecond count since the last power-on reset: 32 bits, wrapping (R133). -/
abbrev Millis := BitVec 32

/-- A node address of the vehicle network, 0 (broadcast) to 63 (R180). -/
abbrev Node := BitVec 6

/-- The index of an auxiliary load; load ID = index + 1 (R106). -/
abbrev LoadIx := Fin 16

end Sys2Proof
end

