-- ==== Sys2Proof/Config.lean ====
section
/-! DEFINITION. What one VR-412 fixes: fixed timer settings, capacities and identification codes. Nothing
here is free: every value is the spec's. -/

namespace Sys2Proof.Config

/-- T_cmd, the delivery limit of a retriever command, 20 ms, fixed (R50, R53). -/
def tCmd : Nat := 20

/-- T_seg, the segment timer of an assembling request, 100 ms, fixed (R162). -/
def tSeg : Nat := 100

/-- A command is sent at most four times (R52). -/
def maxTransmissions : Nat := 4

/-- Entries of the management request queue (R162). -/
def requestEntries : Nat := 4

/-- Bytes of an assembled request payload (R163). -/
def requestBytes : Nat := 128

/-- Bytes of payload in one frame (R180). -/
def payloadBytes : Nat := 32

/-- Response entries of the upstream queue (R158). -/
def responseEntries : Nat := 4

/-- Notice entries of the upstream queue (R158). -/
def noticeEntries : Nat := 8

/-- Status entries of the upstream queue, one per pair of source node and class (R158). -/
def statusEntries : Nat := 16

/-- Entries for other passed-up frames in the upstream queue (R158). -/
def otherEntries : Nat := 8

/-- Entries of the lane 0 FIFO (R150). -/
def lane0Entries : Nat := 4

/-- Entries of the lane 2 general FIFO (R150). -/
def lane2Entries : Nat := 8

/-- Grants of lanes 0 and 1 that a waiting lane 2 frame stands behind (R152). -/
def grantBound : Nat := 16

/-- The repeat count of an alarm record saturates here (R133). -/
def repeatBound : Nat := 255

/-- The greatest pole angle, in tenths of a degree (R23). -/
def maxAngle : Nat := 900

/-- Vendor code of READ_IDENT (R187). -/
def vendorCode : Half := 0x31C4

/-- Part code of READ_IDENT (R187). -/
def partCode : Half := 0x0412

/-- Silicon revision of READ_IDENT (R187). -/
def revision : Byte := 1

/-- Capacities of tables 0 to 4 in READ_IDENT (R166, R187). -/
def capacities : List Nat := [128, 16, 4, 27, 5]

end Sys2Proof.Config
end

