-- ==== Sys2Proof/Syntax.lean ====
section
/-! DEFINITION. The commands of the VR-412: one constructor of `Instr` for each row of
spec/opcode_table.json, and the data types that their operands are made of. -/

namespace Sys2Proof

/-- The two trolley poles and their channels (spec/00_scope.md). -/
inductive Pole where
  | p | n
deriving DecidableEq, Repr

/-- Kinds of section (R1). -/
inductive SectionKind where
  | live | frog | insulator | dead | wireless
deriving DecidableEq, Repr

/-- The GAP subkind, present exactly in mode GAP (R56). -/
inductive GapKind where
  | insulator | dead
deriving DecidableEq, Repr

/-- The supply mode with its GAP subkind (R56). -/
inductive SupplyMode where
  | unresolved | wire
  | gap (kind : GapKind)
  | noLine | battery | dewired
deriving DecidableEq, Repr

/-- The state of a pole channel (R19). -/
inductive PoleState where
  | unknown | stowed | raising | onWire | suspect | dropped | retrieving | lowering | lost
deriving DecidableEq, Repr

/-- The twelve alarm keys (R132). -/
inductive AlarmKey where
  | poleDrop (pole : Pole)
  | retrieveFail (pole : Pole)
  | sensorLost (pole : Pole)
  | cutUnconfirmed | polesUpInWireless | driveLinkHeld | poleLineFault | noLine | positionLost
deriving DecidableEq, Repr

/-- The cause carried by a cut frame (R97). -/
inductive CutCause where
  | dewired | unresolved | restart
deriving DecidableEq, Repr

/-- A frame of Port U or Port D without its check sequence: the four header bytes field by field, the unused
bits kept as received (R180), and the payload. The payload length field is the payload's length. -/
structure Frame where
  cls     : BitVec 4
  /-- Bits 3-0 of byte 0: bit 0 gap flag, bit 1 continuation flag, bits 3-2 unused. -/
  flags   : BitVec 4
  dst     : Node
  src     : Node
  /-- Bits 7-6 of byte 1. -/
  dstHigh : BitVec 2
  /-- Bits 7-6 of byte 2. -/
  srcHigh : BitVec 2
  payload : List Byte
deriving DecidableEq, Repr

/-- A well-formed sample as PLI delivers it (R44, R182): the angle is the code received. -/
structure Sample where
  seq     : Byte
  angle   : Half
  contact : Bool
  hook    : Bool
  volts   : BitVec 10
deriving DecidableEq, Repr

/-- The section view (R2). Section ID 0 is the default section. -/
structure View where
  kind    : SectionKind
  cap     : Nat
  profile : Nat
  id      : Nat
  known   : Bool
deriving DecidableEq, Repr

/-- The budget record (R71). -/
structure BudgetRecord where
  mode        : SupplyMode
  /-- A_s -/
  supply      : Nat
  auxCap      : Nat
  /-- M -/
  motoring    : Nat
  /-- G -/
  regen       : Nat
  /-- R -/
  reservation : Nat
deriving DecidableEq, Repr

/-- A complete management request as MGE takes it (R162, R164): the node it came from, the payload bytes after
the request code, and the over-length mark. For UNKNOWN_REQUEST, `args` is the whole payload. -/
structure Request where
  source : Node
  args   : List Byte
  overLength : Bool
deriving DecidableEq, Repr

/-- One constructor per row of spec/opcode_table.json, in the table's order. Each is one whole, indivisible
step of the part (spec/95_what_each_step_holds.md). -/
inductive Instr where
  /-- POWER_ON_RESET. -/
  | powerOnReset
  /-- PORT_U_FRAME_RECEIVED: the bytes that ended on Port U, header to check sequence. -/
  | portUFrameReceived (bytes : List Byte)
  /-- POSITION_FRAME: a position frame delivered to SCT. -/
  | positionFrame (f : Frame)
  /-- T_POS_EXPIRY -/
  | tPosExpiry
  /-- SCT_PARAMETER_COMMIT -/
  | sctParameterCommit
  /-- TRACTION_DEMAND: a demand frame delivered to TAU. -/
  | tractionDemand (f : Frame)
  /-- AUX_REQUEST_ON: an aux request frame delivered to AXS whose wanted state is not OFF. -/
  | auxRequestOn (f : Frame)
  /-- AUX_REQUEST_OFF: an aux request frame delivered to AXS whose wanted state is OFF. -/
  | auxRequestOff (f : Frame)
  /-- MGMT_SEGMENT: a class 5 frame delivered to the request queue. -/
  | mgmtSegment (f : Frame)
  /-- T_SEG_EXPIRY: of the request that this source is assembling. -/
  | tSegExpiry (source : Node)
  /-- PORT_D_FRAME_RECEIVED: the bytes that ended on Port D, header to check sequence. -/
  | portDFrameReceived (bytes : List Byte)
  /-- DRIVE_STATUS: a drive status frame of the inverter handed to TAU. -/
  | driveStatus (f : Frame)
  /-- AUX_STATUS: an aux status frame handed to AXS. -/
  | auxStatus (f : Frame)
  /-- PORT_S_FRAME_RECEIVED: the bytes that ended on Port S, without the acknowledge slot. -/
  | portSFrameReceived (bytes : List Byte)
  /-- SAMPLE_ACCEPTED: a sample delivered on a pole's channel. -/
  | sampleAccepted (pole : Pole) (sample : Sample)
  /-- COMMAND_TX_START -/
  | commandTxStart
  /-- ARBITRATION_LOST -/
  | arbitrationLost
  /-- COMMAND_TX_END: the frame ended, acknowledged or not. -/
  | commandTxEnd (acknowledged : Bool)
  /-- T_CMD_EXPIRY -/
  | tCmdExpiry (pole : Pole)
  /-- T_SMP_EXPIRY -/
  | tSmpExpiry (pole : Pole)
  /-- T_RAISE_EXPIRY -/
  | tRaiseExpiry (pole : Pole)
  /-- T_RETR_EXPIRY -/
  | tRetrExpiry (pole : Pole)
  /-- SECTION_VIEW_AT_PWU -/
  | sectionViewAtPwu (view : View)
  /-- POLE_REPORT: the pole, its state, and whether the state changed (R23). -/
  | poleReport (pole : Pole) (state : PoleState) (changed : Bool)
  /-- SECTION_VIEW_AT_SMC -/
  | sectionViewAtSmc (view : View)
  /-- POLE_DROP_ACK_REPORT: the POLE_DROP record of this pole was acknowledged or removed. -/
  | poleDropAckReport (pole : Pole)
  /-- NO_LINE_TIMER_EXPIRY -/
  | noLineTimerExpiry
  /-- VOLTAGE_SAMPLE -/
  | voltageSample (pole : Pole) (volts : BitVec 10)
  /-- MODE_AT_CBU -/
  | modeAtCbu (mode : SupplyMode)
  /-- SECTION_VIEW_AT_CBU -/
  | sectionViewAtCbu (view : View)
  /-- RESERVATION_AT_CBU -/
  | reservationAtCbu (reservation : Nat)
  /-- CBU_PARAMETER_COMMIT -/
  | cbuParameterCommit
  /-- BUDGET_RECORD_AT_TAU -/
  | budgetRecordAtTau (record : BudgetRecord)
  /-- BUDGET_RECORD_AT_AXS -/
  | budgetRecordAtAxs (record : BudgetRecord)
  /-- CUT_REQUEST -/
  | cutRequest (cause : CutCause)
  /-- T_STALE_EXPIRY -/
  | tStaleExpiry
  /-- T_CUT_EXPIRY -/
  | tCutExpiry
  /-- MIN_ON_EXPIRY -/
  | minOnExpiry (load : LoadIx)
  /-- MIN_OFF_EXPIRY -/
  | minOffExpiry (load : LoadIx)
  /-- AXS_PARAMETER_COMMIT -/
  | axsParameterCommit
  /-- ALARM_RAISE: the key, and for a POLE_DROP key the acted flag. -/
  | alarmRaise (key : AlarmKey) (acted : Bool)
  /-- ALARM_CLEAR -/
  | alarmClear (key : AlarmKey)
  /-- PORT_D_GRANT -/
  | portDGrant
  /-- PORT_D_TX_END -/
  | portDTxEnd
  /-- HOLD_START -/
  | holdStart
  /-- HOLD_END -/
  | holdEnd
  /-- HOLD_TIMER_EXPIRY -/
  | holdTimerExpiry
  /-- UPSTREAM_TX_START -/
  | upstreamTxStart
  /-- UPSTREAM_TX_END -/
  | upstreamTxEnd
  /-- READ_IDENT -/
  | readIdent (q : Request)
  /-- READ_STATE -/
  | readState (q : Request)
  /-- READ_LOADS -/
  | readLoads (q : Request)
  /-- READ_ALARMS -/
  | readAlarms (q : Request)
  /-- ACK_ALARM -/
  | ackAlarm (q : Request)
  /-- POLE_RAISE -/
  | poleRaise (q : Request)
  /-- POLE_LOWER -/
  | poleLower (q : Request)
  /-- SET_ACT_MASK -/
  | setActMask (q : Request)
  /-- TABLE_OPEN -/
  | tableOpen (q : Request)
  /-- TABLE_WRITE -/
  | tableWrite (q : Request)
  /-- TABLE_READ -/
  | tableRead (q : Request)
  /-- TABLE_COMMIT -/
  | tableCommit (q : Request)
  /-- TABLE_ABANDON -/
  | tableAbandon (q : Request)
  /-- T_OPEN_EXPIRY -/
  | tOpenExpiry
  /-- LOCK_SETTINGS -/
  | lockSettings (q : Request)
  /-- READ_ERRORS -/
  | readErrors (q : Request)
  /-- RESTART -/
  | restart (q : Request)
  /-- UNKNOWN_REQUEST: a request whose payload is empty or names none of the sixteen requests. -/
  | unknownRequest (q : Request)
deriving DecidableEq, Repr

end Sys2Proof
end

