-- ==== Sys2Proof/WellFormed.lean ====
section
/-! DEFINITION. Which commands the part's own rules can produce: the ranges of each operand. `exec` gives a
meaning to every term, well-formed or not. -/

namespace Sys2Proof

/-- A frame accepted by R147: at most 32 payload bytes and a source node other than 0. -/
def Frame.wf (f : Frame) : Bool :=
  decide (f.payload.length ≤ Config.payloadBytes) && decide (f.src ≠ 0)

/-- An accepted frame of one class. -/
def Frame.wfClass (f : Frame) (cls : BitVec 4) : Bool :=
  f.wf && decide (f.cls = cls)

/-- The wanted state byte of an aux request payload, where the payload has one (R184). -/
def Frame.wanted (f : Frame) : Option Byte := f.payload[1]?

/-- A section view within the ranges of R1 and R2; the default section is LIVE with profile 0. -/
def View.wf (v : View) : Bool :=
  decide (v.cap ≤ 1023) && decide (v.profile ≤ 3) && decide (v.id ≤ 4095) &&
    (decide (v.id ≠ 0) || (decide (v.kind = .live) && decide (v.profile = 0))) &&
    (v.known || decide (v.id = 0))

/-- A budget record within the ranges of R71. -/
def BudgetRecord.wf (r : BudgetRecord) : Bool :=
  decide (r.supply ≤ 1023) && decide (r.auxCap ≤ 1023) && decide (r.motoring ≤ 1023) &&
    decide (r.regen ≤ 1023) && decide (r.reservation ≤ 4080)

/-- A request body as the queue can hold it: 127 bytes after the code, from a node other than 0 (R163). -/
def Request.wf (q : Request) : Bool :=
  decide (q.source ≠ 0) && decide (q.args.length < Config.requestBytes)

/-- A payload that names none of the sixteen requests (R165, cases 2 and 3). -/
def Request.unknownPayload (q : Request) : Bool :=
  match q.args with
  | [] => true
  | c :: _ => decide (c.toNat = 0) || decide (16 < c.toNat)

/-- Whether an alarm key is a POLE_DROP key (R132). -/
def AlarmKey.isPoleDrop : AlarmKey → Bool
  | .poleDrop _ => true
  | _ => false

/-- Well-formed commands. -/
def Instr.wf : Instr → Bool
  | .powerOnReset => true
  | .portUFrameReceived _ => true
  | .positionFrame f => f.wfClass 4
  | .tPosExpiry => true
  | .sctParameterCommit => true
  | .tractionDemand f => f.wfClass 1
  | .auxRequestOn f => f.wfClass 2 && decide (f.wanted ≠ some 0)
  | .auxRequestOff f => f.wfClass 2 && decide (f.wanted = some 0)
  | .mgmtSegment f => f.wfClass 5
  | .tSegExpiry source => decide (source ≠ 0)
  | .portDFrameReceived _ => true
  | .driveStatus f => f.wfClass 9
  | .auxStatus f => f.wfClass 10
  | .portSFrameReceived _ => true
  | .sampleAccepted _ _ => true
  | .commandTxStart => true
  | .arbitrationLost => true
  | .commandTxEnd _ => true
  | .tCmdExpiry _ => true
  | .tSmpExpiry _ => true
  | .tRaiseExpiry _ => true
  | .tRetrExpiry _ => true
  | .sectionViewAtPwu v => v.wf
  | .poleReport _ _ _ => true
  | .sectionViewAtSmc v => v.wf
  | .poleDropAckReport _ => true
  | .noLineTimerExpiry => true
  | .voltageSample _ _ => true
  | .modeAtCbu _ => true
  | .sectionViewAtCbu v => v.wf
  | .reservationAtCbu r => decide (r ≤ 4080)
  | .cbuParameterCommit => true
  | .budgetRecordAtTau r => r.wf
  | .budgetRecordAtAxs r => r.wf
  | .cutRequest _ => true
  | .tStaleExpiry => true
  | .tCutExpiry => true
  | .minOnExpiry _ => true
  | .minOffExpiry _ => true
  | .axsParameterCommit => true
  | .alarmRaise key acted => !acted || key.isPoleDrop
  | .alarmClear _ => true
  | .portDGrant => true
  | .portDTxEnd => true
  | .holdStart => true
  | .holdEnd => true
  | .holdTimerExpiry => true
  | .upstreamTxStart => true
  | .upstreamTxEnd => true
  | .readIdent q => q.wf
  | .readState q => q.wf
  | .readLoads q => q.wf
  | .readAlarms q => q.wf
  | .ackAlarm q => q.wf
  | .poleRaise q => q.wf
  | .poleLower q => q.wf
  | .setActMask q => q.wf
  | .tableOpen q => q.wf
  | .tableWrite q => q.wf
  | .tableRead q => q.wf
  | .tableCommit q => q.wf
  | .tableAbandon q => q.wf
  | .tOpenExpiry => true
  | .lockSettings q => q.wf
  | .readErrors q => q.wf
  | .restart q => q.wf
  | .unknownRequest q => decide (q.source ≠ 0) && decide (q.args.length ≤ Config.requestBytes) &&
      q.unknownPayload

end Sys2Proof
end

