-- ==== Sys2Proof/Decode.lean ====
section
/-! DEFINITION. Decoding of table words. The block decodes no instruction words: no row of
spec/opcode_table.json gives bits ("fields" is empty and no "fixed" stands in any row), so no word spells a
command. The frames that the three ports carry are read in Machine/Wire.lean. -/

namespace Sys2Proof

/-- The command a word spells by the table's bits: none, since the table gives no row any bits. -/
def decodeTableWord (_nbits _w : Nat) : Option Instr := none

end Sys2Proof
end

