-- ==== Sys2Proof/Machine/Params.lean ====
section
/-! DEFINITION. The parameter table (R174): 27 values of 16 bits as written, their defaults, and one named
reader per parameter. Quantities are read as natural numbers. -/

namespace Sys2Proof.Machine

/-- The parameter table, indexed as R174 indexes it. -/
abbrev ParamTable := Vector Half 27

/-- The defaults of R174. -/
def defaultParams : ParamTable :=
  #v[500, 400, 520, 250, 450, 720, 800, 400, 150, 100, 100, 40, 10, 1, 500, 10, 1, 200, 100, 100, 15, 10, 4000,
    3000, 2000, 50, 5000]

def iLineMax (t : ParamTable) : Nat := t[0].toNat
def vMin (t : ParamTable) : Nat := t[1].toNat
def vKnee (t : ParamTable) : Nat := t[2].toNat
def vLost (t : ParamTable) : Nat := t[3].toNat
def vRestore (t : ParamTable) : Nat := t[4].toNat
def vRk (t : ParamTable) : Nat := t[5].toNat
def vRmax (t : ParamTable) : Nat := t[6].toNat
def gMax (t : ParamTable) : Nat := t[7].toNat
def aBatt (t : ParamTable) : Nat := t[8].toNat
def gBatt (t : ParamTable) : Nat := t[9].toNat
def tFloor (t : ParamTable) : Nat := t[10].toNat
def sStep (t : ParamTable) : Nat := t[11].toNat
def admitMargin (t : ParamTable) : Nat := t[12].toNat
def keepPriority (t : ParamTable) : Nat := t[13].toNat
def defaultCap (t : ParamTable) : Nat := t[14].toNat
/-- The inverter node; a valid value is 1 to 63 (R174), so its low six bits are the node. -/
def inverterNode (t : ParamTable) : Node := t[15].setWidth 6
/-- The report node; a valid value is 1 to 63 (R174), so its low six bits are the node. -/
def reportNode (t : ParamTable) : Node := t[16].setWidth 6
def tLost (t : ParamTable) : Nat := t[17].toNat
def tStale (t : ParamTable) : Nat := t[18].toNat
def tCut (t : ParamTable) : Nat := t[19].toNat
def iResidual (t : ParamTable) : Nat := t[20].toNat
def tSmp (t : ParamTable) : Nat := t[21].toNat
def tRaise (t : ParamTable) : Nat := t[22].toNat
def tRetr (t : ParamTable) : Nat := t[23].toNat
def tPos (t : ParamTable) : Nat := t[24].toNat
def tHeld (t : ParamTable) : Nat := t[25].toNat
def tOpen (t : ParamTable) : Nat := t[26].toNat

/-- The reset record of R88: UNRESOLVED, A_s and aux cap A_batt, M 0, G G_batt, R 0. -/
def resetRecord (t : ParamTable) : BudgetRecord :=
  { mode := .unresolved, supply := aBatt t, auxCap := aBatt t, motoring := 0, regen := gBatt t, reservation := 0 }

/-- The default section view (R2). -/
def defaultView (t : ParamTable) (known : Bool) : View :=
  { kind := .live, cap := defaultCap t, profile := 0, id := 0, known := known }

end Sys2Proof.Machine
end

