-- ==== Sys2Proof/Machine/State.lean ====
section
/-! DEFINITION. The state of the VR-412, block by block (spec/00_scope.md, Blocks), as plain data, and the state
after power-on reset. INVENTORY.md lists every field with the rule that names it and its reset value. -/

namespace Sys2Proof.Machine

/-- A timer: `none` stopped, `some n` running with `n` ms left of the setting it was started with. -/
abbrev Timer := Option Nat

/-! ### Table entries, as written (R1, R106, R21, R188) -/

/-- A section table entry (R1); codes as stored. -/
structure SectionEntry where
  valid    : Bool
  id       : Half
  route    : Byte
  start    : Half
  stop     : Half
  kind     : Byte
  cap      : Half
  profile  : Byte
deriving DecidableEq, Repr

/-- An aux table entry (R106). -/
structure AuxEntry where
  valid    : Bool
  node     : Byte
  nominal  : Byte
  priority : Byte
  minOn    : Half
  minOff   : Half
  battery  : Bool
deriving DecidableEq, Repr

/-- A detection profile (R21); `confirm` is K. -/
structure ProfileEntry where
  drop      : Half
  rate      : Byte
  confirm   : Byte
  stowedMax : Half
  bandMin   : Half
deriving DecidableEq, Repr

abbrev SectionTable := Vector SectionEntry 128
abbrev AuxTable := Vector AuxEntry 16
abbrev ProfileTable := Vector ProfileEntry 4
/-- Assignment codes for classes 11 to 15: 0 lane 2, 1 lane 0, 2 discard (R157, R188). -/
abbrev ClassMap := Vector Byte 5

/-- The five loadable tables (R169). -/
inductive TableId where
  | sections | aux | profile | parameter | classMap
deriving DecidableEq, Repr

/-! ### Error records (R54, R146) -/

/-- Error codes; `none` of an error record's last code is NONE. -/
inductive ErrCode where
  | checkFailed | length | classRefused | laneFull | badField | noAck
deriving DecidableEq, Repr

/-- A port's error record: last error code and one sticky flag per code, bit n - 1 for code n (R187). -/
structure ErrRec where
  last  : Option ErrCode
  flags : BitVec 6
deriving DecidableEq, Repr

/-! ### SCT (R1, R2, R18) -/

/-- The section tables, the position record, the view last published and T_pos. The position-known flag is
`view.known`. A shadow of `none` is a discarded one. -/
structure Sct where
  active     : SectionTable
  shadow     : Option SectionTable
  pendingTbl : Option SectionTable
  /-- Route tag and chainage of the position record; absent together. -/
  position   : Option (Byte × Half)
  matched    : Option (Fin 128)
  view       : View
  tPos       : Timer
deriving DecidableEq, Repr

/-! ### PWU (R19) -/

/-- AUTONOMOUS or REPORT_ONLY (R20). -/
inductive ActMask where
  | autonomous | reportOnly
deriving DecidableEq, Repr

/-- The values of the last accepted sample, the angle as taken, at most 900 (R23). -/
structure LastSample where
  seq     : Byte
  angle   : Nat
  contact : Bool
  hook    : Bool
  volts   : BitVec 10
deriving DecidableEq, Repr

/-- One pole channel (R19). -/
structure Channel where
  state         : PoleState
  mask          : ActMask
  prevAngle     : Option Nat
  suspect       : Nat
  good          : Nat
  last          : Option LastSample
  lastDropActed : Bool
  tSmp          : Timer
  tRaise        : Timer
  tRetr         : Timer
deriving DecidableEq, Repr

/-- Both channels, the profile tables and the section view PWU has recorded (R40). -/
structure Pwu where
  chP    : Channel
  chN    : Channel
  active : ProfileTable
  shadow : Option ProfileTable
  view   : View
deriving DecidableEq, Repr

/-! ### PLI (R50, R54, R55) -/

/-- Retriever commands (R44). -/
inductive RetrieverCmd where
  | release | pullDown | hold
deriving DecidableEq, Repr

inductive SlotState where
  | empty | waiting | sending | spent
deriving DecidableEq, Repr

/-- A command slot (R50). -/
structure Slot where
  state       : SlotState
  cmd         : Option RetrieverCmd
  tx          : Nat
  entry       : Millis
  tCmd        : Timer
  /-- Line outcome pending. -/
  linePending : Bool
deriving DecidableEq, Repr

/-- The coordinator's frame on Port S; `orphan` marks a frame already on the line at a RESTART, whose ending is
not acted on (R55). -/
structure LineTx where
  pole   : Pole
  cmd    : RetrieverCmd
  wire   : List Byte
  orphan : Bool
deriving DecidableEq, Repr

structure Pli where
  slotP     : Slot
  slotN     : Slot
  /-- Last accepted sequence numbers (R49). -/
  seqP      : Option Byte
  seqN      : Option Byte
  err       : ErrRec
  /-- PLI's own frame on the line (R43, R55). -/
  sending   : Option LineTx
  /-- Another station's frame that the line must be idle after is still on it: the one that won arbitration against PLI
  (R45), or the one met at power-on (R55). -/
  lineBusy  : Bool
  /-- The frame on the line was already under way at power-on, so its end is not acted on (R55). -/
  underWay  : Bool
  /-- The level PLI drove in the acknowledge slot of the last frame of another station: true is dominant (R47). -/
  ackDriven : Bool
deriving DecidableEq, Repr

/-! ### SMC (R56) -/

structure Smc where
  mode    : SupplyMode
  /-- The DEWIRED latch. -/
  latch   : Bool
  /-- The NO_LINE timer, T_lost. -/
  noLine  : Timer
  /-- Wireless exposure. -/
  exposed : Bool
deriving DecidableEq, Repr

/-! ### CBU (R71) -/

structure Cbu where
  voltsP    : BitVec 10
  voltsN    : BitVec 10
  /-- The cap of the section view that CBU has last taken (R79, R82). -/
  cap       : Nat
  record    : BudgetRecord
  published : BudgetRecord
deriving DecidableEq, Repr

/-! ### TAU (R89) -/

structure Tau where
  /-- Last admitted demand p. -/
  admitted    : Int
  /-- Last requested demand. -/
  requested   : Int
  record      : BudgetRecord
  tStale      : Timer
  cutWaiting  : Option CutCause
  /-- Confirmation window open. -/
  window      : Bool
  tCut        : Timer
  unconfirmed : Bool
deriving DecidableEq, Repr

/-! ### AXS (R107 to R109) -/

inductive LoadState where
  | off | waiting | on | shed | fault
deriving DecidableEq, Repr

/-- A load record (R107). -/
structure LoadRec where
  state     : LoadState
  requested : Bool
  admitted  : Option Millis
  order     : Option Nat
  minOn     : Timer
  minOff    : Timer
  joined    : Option Millis
  running   : Option Bool
deriving DecidableEq, Repr

structure Axs where
  active      : AuxTable
  shadow      : Option AuxTable
  loads       : Vector LoadRec 16
  /-- The loads of the waiting list in their order of joining; R108 orders the list by priority first. -/
  joinOrder   : List LoadIx
  reservation : Nat
  record      : BudgetRecord
  /-- Admission order count. -/
  orderCount  : Nat
deriving DecidableEq, Repr

/-! ### ALM (R133) -/

inductive AlarmState where
  | raisedUnacked | raisedAcked | clearedUnacked
deriving DecidableEq, Repr

structure AlarmRec where
  key       : AlarmKey
  state     : AlarmState
  acted     : Option Bool
  first     : Millis
  last      : Millis
  repeats   : Nat
  sectionId : Option Nat
  chainage  : Option Half
  volts     : Nat
deriving DecidableEq, Repr

/-! ### DEC (R150 to R157) -/

inductive Lane where
  | safety | traction | general
deriving DecidableEq, Repr

/-- The contents of the lanes: lane 0 cut slot and FIFO, lane 1, lane 2 command slots in slot entry order and
general FIFO (R150, R151). -/
structure Lanes where
  cut   : Option Frame
  fifo0 : List Frame
  lane1 : Option Frame
  slots : List (LoadIx × Frame)
  fifo2 : List Frame
deriving DecidableEq, Repr

/-- A transmission on Port D: the bytes on the wire, the lane it left, whether it is TAU's cut frame, and whether
it was already in transmission at a RESTART (R160). -/
structure PortDTx where
  wire   : List Byte
  lane   : Lane
  cut    : Bool
  orphan : Bool
deriving DecidableEq, Repr

structure Dec where
  lanes       : Lanes
  classMap    : ClassMap
  shadow      : Option ClassMap
  /-- Consecutive grant count. -/
  grants      : Nat
  /-- A hold is in effect. -/
  held        : Bool
  /-- The hold timer. -/
  tHeld       : Timer
  /-- The hold timer has expired in the present hold, so it is not started again in it (R156). -/
  heldExpired : Bool
  linkHeld    : Bool
  err         : ErrRec
  sending     : Option PortDTx
  /-- The frame arriving on Port D was already under way at power-on, so it is not received (R161). -/
  underWay    : Bool
deriving DecidableEq, Repr

/-! ### UPI (R158, R159) -/

/-- An entry of group A: a response segment (`restart` marks the response of RESTART) or a key's alarm frame. -/
inductive GroupA where
  | response (f : Frame) (restart : Bool)
  | alarm (key : AlarmKey) (f : Frame)
deriving DecidableEq, Repr

/-- An entry of group B. A status entry's key is its frame's source node and class. -/
inductive GroupB where
  | notice (f : Frame)
  | status (f : Frame)
  | other (f : Frame)
deriving DecidableEq, Repr

/-- A transmission on Port U: the bytes on the wire, and whether it is the response of RESTART. -/
structure PortUTx where
  wire    : List Byte
  restart : Bool
deriving DecidableEq, Repr

/-- The upstream queue: each group in placement order, earliest first. -/
structure Upi where
  err        : ErrRec
  groupA     : List GroupA
  groupB     : List GroupB
  noticeLost : Bool
  sending    : Option PortUTx
  /-- The frame arriving on Port U was already under way at power-on, so it is not received (R161). -/
  underWay   : Bool
deriving DecidableEq, Repr

/-! ### MGE (R162, R169, R174, R177) -/

/-- ASSEMBLING with T_seg running, or COMPLETE with its completion order (R162). -/
inductive Assembly where
  | assembling (tSeg : Nat)
  | complete (order : Nat)
deriving DecidableEq, Repr

/-- An entry of the request queue (R162). -/
structure ReqEntry where
  source   : Node
  payload  : List Byte
  overLength : Bool
  assembly : Assembly
deriving DecidableEq, Repr

/-- The open table, its owner, and the time left of T_open, which runs while a table is open (R169). -/
structure OpenTable where
  table : TableId
  owner : Node
  tOpen : Nat
deriving DecidableEq, Repr

structure Mge where
  queue        : List ReqEntry
  /-- Completion order count. -/
  orderCount   : Nat
  /-- Response segments still to be placed. -/
  toPlace      : List Frame
  /-- Waiting for a RESTART response to be sent. -/
  awaitRestart : Bool
  openTable    : Option OpenTable
  /-- The settings lock. -/
  lock         : Bool
  params       : ParamTable
  shadow       : Option ParamTable
deriving DecidableEq, Repr

/-! ### The whole part -/

/-- The part's three ports: whether a frame of another station is under way on each (R55, R161; log entry 8). -/
structure UnderWay where
  portU : Bool
  portD : Bool
  portS : Bool
deriving DecidableEq, Repr

/-- The state: the millisecond count, two inputs (the strap pins, and what a power-on reset finds under way on the ports,
which no command changes), the eleven blocks, the events handed over between blocks
and not taken yet (oldest first), and the queue of waiting commands. -/
structure State where
  ms      : Millis
  strap   : BitVec 3
  found   : UnderWay
  sct     : Sct
  pwu     : Pwu
  pli     : Pli
  smc     : Smc
  cbu     : Cbu
  tau     : Tau
  axs     : Axs
  alm     : List AlarmRec
  dec     : Dec
  upi     : Upi
  mge     : Mge
  handed  : List Instr
  pending : List Instr
deriving DecidableEq, Repr

/-- Reasons to stop: none. No rule of the spec stops the part, and every event of every block has a stated
outcome, so no step of this model faults. -/
inductive Fault where
deriving DecidableEq, Repr

/-- Reasons for which the model gives no meaning. -/
inductive Refusal where
  /-- Raised by an arm of `exec` whose command has no meaning yet; safe. No arm raises it. -/
  | notModelled (mnemonic : String)
deriving DecidableEq, Repr

/-! ### Reset values -/

/-- An error record after either reset: NONE, all flags clear (R55, R160). -/
def ErrRec.clear : ErrRec := { last := none, flags := 0 }

def SectionEntry.invalid : SectionEntry :=
  { valid := false, id := 0, route := 0, start := 0, stop := 0, kind := 0, cap := 0, profile := 0 }

def AuxEntry.invalid : AuxEntry :=
  { valid := false, node := 0, nominal := 0, priority := 0, minOn := 0, minOff := 0, battery := false }

/-- The default profiles of R21. -/
def defaultProfiles : ProfileTable :=
  #v[⟨550, 40, 2, 80, 150⟩, ⟨620, 70, 3, 80, 150⟩, ⟨650, 50, 2, 80, 150⟩, ⟨550, 40, 2, 80, 150⟩]

/-- The default class map: lane 2 for each class (R161). -/
def defaultClassMap : ClassMap := Vector.replicate 5 0

/-- SCT after power-on reset (R18). -/
def Sct.reset : Sct :=
  { active := Vector.replicate 128 .invalid, shadow := some (Vector.replicate 128 .invalid), pendingTbl := none,
    position := none, matched := none, view := defaultView defaultParams false,
    tPos := some (Sys2Proof.Machine.tPos defaultParams) }

/-- A channel's restart values under a given act mask and T_smp setting (R41, R42). -/
def Channel.fresh (mask : ActMask) (smp : Nat) : Channel :=
  { state := .unknown, mask := mask, prevAngle := none, suspect := 0, good := 0, last := none,
    lastDropActed := false, tSmp := some smp, tRaise := none, tRetr := none }

/-- PWU after power-on reset (R42). -/
def Pwu.reset : Pwu :=
  { chP := .fresh .autonomous (tSmp defaultParams), chN := .fresh .autonomous (tSmp defaultParams),
    active := defaultProfiles, shadow := some defaultProfiles, view := defaultView defaultParams false }

/-- A slot after either reset (R55). -/
def Slot.reset : Slot :=
  { state := .empty, cmd := none, tx := 0, entry := 0, tCmd := none, linePending := false }

/-- PLI after power-on reset (R55). -/
def Pli.reset : Pli :=
  { slotP := .reset, slotN := .reset, seqP := none, seqN := none, err := .clear, sending := none, lineBusy := false,
    underWay := false, ackDriven := false }

/-- SMC after either reset (R70). -/
def Smc.reset : Smc := { mode := .unresolved, latch := false, noLine := none, exposed := false }

/-- CBU after either reset, under the active parameters (R88); the view it starts from is the default view that SCT
takes (R17, R18). -/
def Cbu.fresh (t : ParamTable) : Cbu :=
  { voltsP := 0, voltsN := 0, cap := defaultCap t, record := resetRecord t, published := resetRecord t }

/-- TAU after either reset, before the RESTART cut (R104, R105). -/
def Tau.fresh (t : ParamTable) : Tau :=
  { admitted := 0, requested := 0, record := resetRecord t, tStale := none, cutWaiting := none, window := false,
    tCut := none, unconfirmed := false }

def LoadRec.reset : LoadRec :=
  { state := .off, requested := false, admitted := none, order := none, minOn := none, minOff := none, joined := none,
    running := none }

/-- AXS after power-on reset (R131). -/
def Axs.reset : Axs :=
  { active := Vector.replicate 16 .invalid, shadow := some (Vector.replicate 16 .invalid),
    loads := Vector.replicate 16 .reset, joinOrder := [], reservation := 0, record := resetRecord defaultParams,
    orderCount := 0 }

def Lanes.empty : Lanes := { cut := none, fifo0 := [], lane1 := none, slots := [], fifo2 := [] }

/-- DEC after power-on reset with the port not held (R160, R161). -/
def Dec.reset : Dec :=
  { lanes := .empty, classMap := defaultClassMap, shadow := some defaultClassMap, grants := 0, held := false,
    tHeld := none, heldExpired := false, linkHeld := false, err := .clear, sending := none, underWay := false }

/-- UPI after power-on reset (R161). -/
def Upi.reset : Upi :=
  { err := .clear, groupA := [], groupB := [], noticeLost := false, sending := none, underWay := false }

/-- MGE after power-on reset (R179). -/
def Mge.reset : Mge :=
  { queue := [], orderCount := 0, toPlace := [], awaitRestart := false, openTable := none, lock := false,
    params := defaultParams, shadow := some defaultParams }

/-- The part right after power-on reset. The strap value 0, a Port D that is not held and three ports with no
frame under way are chosen for the inputs (DESIGN CHOICE). -/
def State.reset : State :=
  { ms := 0, strap := 0, found := ⟨false, false, false⟩, sct := .reset, pwu := .reset, pli := .reset, smc := .reset, cbu := .fresh defaultParams,
    tau := .fresh defaultParams, axs := .reset, alm := [], dec := .reset, upi := .reset, mge := .reset, handed := [],
    pending := [] }

end Sys2Proof.Machine
end

