-- ==== Sys2Proof/Machine/Codes.lean ====
section
/-! DEFINITION. The codes of R189: what number each name has in a frame, a record or a request, and which name a
received code stands for. -/

namespace Sys2Proof.Machine

/-- Section kind codes. -/
def sectionKindCode : SectionKind → Byte
  | .live => 0 | .frog => 1 | .insulator => 2 | .dead => 3 | .wireless => 4

/-- The kind a stored code stands for; other codes fail at commit (R13). -/
def sectionKindOf (c : Byte) : Option SectionKind :=
  if c = 0 then some .live else if c = 1 then some .frog else if c = 2 then some .insulator
  else if c = 3 then some .dead else if c = 4 then some .wireless else none

/-- Supply mode codes. -/
def modeCode : SupplyMode → Byte
  | .unresolved => 0 | .wire => 1 | .gap _ => 2 | .noLine => 3 | .battery => 4 | .dewired => 5

/-- GAP subkind codes; 0 is absent. -/
def subkindCode : SupplyMode → Byte
  | .gap .insulator => 1 | .gap .dead => 2 | _ => 0

def poleStateCode : PoleState → Byte
  | .unknown => 0 | .stowed => 1 | .raising => 2 | .onWire => 3 | .suspect => 4 | .dropped => 5 | .retrieving => 6
  | .lowering => 7 | .lost => 8

def actMaskCode : ActMask → Byte
  | .autonomous => 0 | .reportOnly => 1

def actMaskOf (c : Byte) : Option ActMask :=
  if c = 0 then some .autonomous else if c = 1 then some .reportOnly else none

/-- Pole code in a RAISE_FAILED notice and a pole selector. -/
def poleCode : Pole → Byte
  | .p => 1 | .n => 2

/-- Pole selectors: the named poles. DESIGN CHOICE, log entry 23: a request for both takes P before N. -/
def polesOf (c : Byte) : Option (List Pole) :=
  if c = 1 then some [.p] else if c = 2 then some [.n] else if c = 3 then some [.p, .n] else none

/-- Why an admitted frame carries less than was asked (R86, R93). -/
inductive LimitReason where
  | none | step | budget | regen | mode
deriving DecidableEq, Repr

def reasonCode : LimitReason → Byte
  | .none => 0 | .step => 1 | .budget => 2 | .regen => 3 | .mode => 4

def cutCauseCode : CutCause → Byte
  | .dewired => 1 | .unresolved => 2 | .restart => 3

def loadStateCode : LoadState → Byte
  | .off => 0 | .waiting => 1 | .on => 2 | .shed => 3 | .fault => 4

/-- Causes of AUX_STATE notices (R129). -/
inductive AuxCause where
  | requestOn | requestOff | admitted | budgetShed | excluded | converterFault | faultCleared | tableCommit
deriving DecidableEq, Repr

def auxCauseCode : AuxCause → Byte
  | .requestOn => 1 | .requestOff => 2 | .admitted => 3 | .budgetShed => 4 | .excluded => 5
  | .converterFault => 6 | .faultCleared => 7 | .tableCommit => 8

def alarmKeyCode : AlarmKey → Byte
  | .poleDrop .p => 1 | .poleDrop .n => 2 | .retrieveFail .p => 3 | .retrieveFail .n => 4
  | .sensorLost .p => 5 | .sensorLost .n => 6 | .cutUnconfirmed => 7 | .polesUpInWireless => 8
  | .driveLinkHeld => 9 | .poleLineFault => 10 | .noLine => 11 | .positionLost => 12

/-- The twelve keys in the order of their codes. -/
def alarmKeys : List AlarmKey :=
  [.poleDrop .p, .poleDrop .n, .retrieveFail .p, .retrieveFail .n, .sensorLost .p, .sensorLost .n, .cutUnconfirmed,
    .polesUpInWireless, .driveLinkHeld, .poleLineFault, .noLine, .positionLost]

/-- The key a code names, if it names one. -/
def alarmKeyOf (c : Byte) : Option AlarmKey := alarmKeys.find? (fun k => alarmKeyCode k == c)

def alarmStateCode : AlarmState → Byte
  | .raisedUnacked => 1 | .raisedAcked => 2 | .clearedUnacked => 3

/-- Events of ALARM frames (R142). -/
inductive AlarmEvent where
  | raised | repeated | cleared | acknowledged | removed
deriving DecidableEq, Repr

def alarmEventCode : AlarmEvent → Byte
  | .raised => 1 | .repeated => 2 | .cleared => 3 | .acknowledged => 4 | .removed => 5

/-- Status codes of management responses (R165). -/
inductive Status where
  | ok | deferred | busy | locked | notOpen | notOwner | badIndex | badField | invalidTable | wrongSection
  | unknownKey | unknownRequest
deriving DecidableEq, Repr

def statusCode : Status → Byte
  | .ok => 0 | .deferred => 1 | .busy => 2 | .locked => 3 | .notOpen => 4 | .notOwner => 5 | .badIndex => 6
  | .badField => 7 | .invalidTable => 8 | .wrongSection => 9 | .unknownKey => 10 | .unknownRequest => 11

/-- Error codes 1 to 6. -/
def errCodeNum : ErrCode → Nat
  | .checkFailed => 1 | .length => 2 | .classRefused => 3 | .laneFull => 4 | .badField => 5 | .noAck => 6

/-- The last error code as reported; 0 is NONE. -/
def lastErrorCode (e : Option ErrCode) : Byte :=
  match e with
  | none => 0
  | some c => BitVec.ofNat 8 (errCodeNum c)

inductive AbandonCause where
  | request | timeout | lock
deriving DecidableEq, Repr

def abandonCauseCode : AbandonCause → Byte
  | .request => 1 | .timeout => 2 | .lock => 3

def tableCode : TableId → Byte
  | .sections => 0 | .aux => 1 | .profile => 2 | .parameter => 3 | .classMap => 4

def tableOf (c : Byte) : Option TableId :=
  if c = 0 then some .sections else if c = 1 then some .aux else if c = 2 then some .profile
  else if c = 3 then some .parameter else if c = 4 then some .classMap else none

/-- Capacities in entries (R169). -/
def tableCapacity : TableId → Nat
  | .sections => 128 | .aux => 16 | .profile => 4 | .parameter => 27 | .classMap => 5

/-- Bytes of one entry as TABLE_WRITE and TABLE_READ carry it (R188). -/
def tableEntryBytes : TableId → Nat
  | .sections => 12 | .aux => 9 | .profile => 8 | .parameter => 2 | .classMap => 1

/-- Retriever command codes (R182). -/
def retrieverCode : RetrieverCmd → Byte
  | .release => 1 | .pullDown => 2 | .hold => 3

/-- Request codes (R187). -/
inductive ReqCode where
  | readIdent | readState | readLoads | readAlarms | ackAlarm | poleRaise | poleLower | setActMask | tableOpen
  | tableWrite | tableRead | tableCommit | tableAbandon | lockSettings | readErrors | restart
deriving DecidableEq, Repr

def reqCodeNum : ReqCode → Byte
  | .readIdent => 1 | .readState => 2 | .readLoads => 3 | .readAlarms => 4 | .ackAlarm => 5 | .poleRaise => 6
  | .poleLower => 7 | .setActMask => 8 | .tableOpen => 9 | .tableWrite => 10 | .tableRead => 11
  | .tableCommit => 12 | .tableAbandon => 13 | .lockSettings => 14 | .readErrors => 15 | .restart => 16

end Sys2Proof.Machine
end

