-- ==== Sys2Proof/Machine/Wire.lean ====
section
/-! DEFINITION. Bytes on the three ports: byte order, the CRC-16 check sequence (R181), the header of Port U and Port D
frames (R180) and the frames of Port S (R182), with the acceptance checks of R147 and R47. -/

namespace Sys2Proof.Machine

/-- The two bytes of a 16-bit field, most significant first (R183). -/
def be16 (h : Half) : List Byte := [h.extractLsb' 8 8, h.extractLsb' 0 8]

/-- The four bytes of a millisecond count, most significant first. -/
def be32 (t : Millis) : List Byte :=
  [t.extractLsb' 24 8, t.extractLsb' 16 8, t.extractLsb' 8 8, t.extractLsb' 0 8]

/-- Two received bytes as one field. -/
def half (hi lo : Byte) : Half := hi ++ lo

/-- An unsigned quantity in two bytes (R183). -/
def unsigned16 (n : Nat) : List Byte := be16 (BitVec.ofNat 16 n)

/-- A signed current as sent: 16-bit two's complement (R183). -/
def signed16 (i : Int) : List Byte := be16 (BitVec.ofInt 16 i)

/-- A signed current as read: bits 10-0 in two's complement, the code -1024 taken as -1023 (R183). -/
def signedCurrent (hi lo : Byte) : Int :=
  let v := ((half hi lo).setWidth 11).toInt
  if v = -1024 then -1023 else v

/-! ### Check sequence (R181) -/

/-- One bit of the CRC register: shift left, and add the polynomial when the bit shifted out is 1. -/
def crcShift (r : Half) : Half := if r.msb then (r <<< 1) ^^^ 0x1021 else r <<< 1

/-- One byte into the CRC register, most significant bit first. -/
def crcByte (r : Half) (b : Byte) : Half :=
  crcShift <| crcShift <| crcShift <| crcShift <| crcShift <| crcShift <| crcShift <| crcShift
    (r ^^^ (b ++ (0 : Byte) : BitVec 16))

/-- The CRC-16 of a run of bytes, from 0xFFFF. -/
def crc16 (bytes : List Byte) : Half := bytes.foldl crcByte 0xFFFF

/-! ### Port U and Port D frames (R180, R147) -/

/-- The four header bytes. -/
def frameHeader (f : Frame) : List Byte :=
  [(f.cls ++ f.flags : BitVec 8), (f.dstHigh ++ f.dst : BitVec 8), (f.srcHigh ++ f.src : BitVec 8),
    BitVec.ofNat 8 f.payload.length]

/-- The bytes of a frame on the wire, the check sequence computed as it is sent. -/
def frameWire (f : Frame) : List Byte :=
  let body := frameHeader f ++ f.payload
  body ++ be16 (crc16 body)

/-- A frame read from four header bytes and a payload. -/
def frameOf (b0 b1 b2 : Byte) (payload : List Byte) : Frame :=
  { cls := b0.extractLsb' 4 4, flags := b0.extractLsb' 0 4, dst := b1.extractLsb' 0 6, src := b2.extractLsb' 0 6,
    dstHigh := b1.extractLsb' 6 2, srcHigh := b2.extractLsb' 6 2, payload := payload }

/-- R147: the five acceptance checks, in order. -/
def parseFrame (bytes : List Byte) : Except ErrCode Frame :=
  match bytes with
  | b0 :: b1 :: b2 :: b3 :: rest =>
    if Config.payloadBytes < b3.toNat then .error .length
    else if rest.length ≠ b3.toNat + 2 then .error .length
    else if rest.drop b3.toNat ≠ be16 (crc16 (b0 :: b1 :: b2 :: b3 :: rest.take b3.toNat)) then .error .checkFailed
    else if b2.extractLsb' 0 6 = (0 : Node) then .error .badField
    else .ok (frameOf b0 b1 b2 (rest.take b3.toNat))
  | _ => .error .length

/-- A frame the part builds: flags and unused bits 0 (R180). -/
def builtFrame (cls : BitVec 4) (dst src : Node) (payload : List Byte) : Frame :=
  { cls := cls, flags := 0, dst := dst, src := src, dstHigh := 0, srcHigh := 0, payload := payload }

/-- The continuation flag of a frame, bit 1 of byte 0 (R180). -/
def frameContinues (f : Frame) : Bool := f.flags.getLsbD 1

/-- A frame with its gap flag set (R159). -/
def withGap (f : Frame) : Frame := { f with flags := f.flags ||| 1 }

/-- A frame with its continuation flag set (R164). -/
def withContinuation (f : Frame) : Frame := { f with flags := f.flags ||| 2 }

/-! ### Port S frames (R182, R47) -/

/-- A Port S frame whose check is good. -/
structure LineFrame where
  priority : BitVec 2
  source   : BitVec 4
  kind     : BitVec 2
  dst      : BitVec 4
  payload  : List Byte
deriving DecidableEq, Repr

/-- A Port S frame read from the bytes received: `none` when the check fails, or when the bytes are not as many as
the payload length field calls for, so that no check sequence stands where it is looked for (DEDUCED). -/
def parseLine (bytes : List Byte) : Option LineFrame :=
  match bytes with
  | b0 :: b1 :: rest =>
    let n := (b1.extractLsb' 0 4).toNat
    if rest.length ≠ n + 2 then none
    else if rest.drop n ≠ be16 (crc16 (b0 :: b1 :: rest.take n)) then none
    else some { priority := b0.extractLsb' 6 2, source := b0.extractLsb' 2 4, kind := b0.extractLsb' 0 2,
                dst := b1.extractLsb' 4 4, payload := rest.take n }
  | _ => none

/-- The Port S address of a pole-base unit (spec/00_scope.md). -/
def poleAddress : Pole → BitVec 4
  | .p => 2 | .n => 3

/-- The bytes of a command frame: priority 1, source 1, kind COMMAND, to the pole's unit (R44, R182). -/
def commandWire (pole : Pole) (cmd : RetrieverCmd) : List Byte :=
  let body : List Byte := [((1 : BitVec 2) ++ (1 : BitVec 4) ++ (2 : BitVec 2) : BitVec 8),
    (poleAddress pole ++ (1 : BitVec 4) : BitVec 8), retrieverCode cmd]
  body ++ be16 (crc16 body)

end Sys2Proof.Machine
end

