-- ==== Sys2Proof/Machine/Flags.lean ====
section
/-! DEFINITION. Sticky error flags (R54, R146, R168) and the flag bytes of payloads (R185 to R187). -/

namespace Sys2Proof.Machine

/-- The flag bit of an error code: bit n - 1 for code n (R187). -/
def errFlag (c : ErrCode) : BitVec 6 := 1 <<< (errCodeNum c - 1)

/-- An error record takes a code: last code and that code's flag (R54). -/
def takeCode (e : ErrRec) (c : ErrCode) : ErrRec := { last := some c, flags := e.flags ||| errFlag c }

/-- Clear the flags a mask names, leaving the last code (R168). -/
def clearFlags (e : ErrRec) (mask : BitVec 6) : ErrRec := { e with flags := e.flags &&& ~~~mask }

/-- A byte from its bits, bit 0 first; the bits not given are 0 (R183). -/
def bitsByte : List Bool → Byte
  | [] => 0
  | b :: rest => (bitsByte rest <<< 1) ||| (if b then 1 else 0)

/-- A presence or state bit of a timer: running. -/
def running (t : Timer) : Bool := t.isSome

/-- The status byte of a sample, as on Port S: bit 0 head contact, bit 1 hook latched (R182). -/
def sampleStatus (s : LastSample) : Byte := bitsByte [s.contact, s.hook]

end Sys2Proof.Machine
end

