-- ==== Sys2Proof/Machine/Operands.lean ====
section
/-! DEFINITION. Reading operands: the payloads of arriving frames (R184), samples (R182), and table entries in the form
TABLE_WRITE and TABLE_READ carry (R188). -/

namespace Sys2Proof.Machine

/-! ### Payloads of arriving frames (R184) -/

/-- Requested current of a demand payload, or measured current of a drive status payload: two bytes. -/
def currentPayload (payload : List Byte) : Option Int :=
  match payload with
  | [hi, lo] => some (signedCurrent hi lo)
  | _ => none

/-- Route tag and chainage of a position payload (three bytes). -/
def positionPayload (payload : List Byte) : Option (Byte × Half) :=
  match payload with
  | [route, hi, lo] => some (route, half hi lo)
  | _ => none

/-- The load that a load ID byte names, 1 to 16 (R110, R123). -/
def loadOf (id : Byte) : Option LoadIx :=
  if h : 1 ≤ id.toNat ∧ id.toNat ≤ 16 then some ⟨id.toNat - 1, by omega⟩ else none

/-- Load ID byte and second byte of a two-byte aux payload. -/
def auxPayload (payload : List Byte) : Option (Byte × Byte) :=
  match payload with
  | [id, x] => some (id, x)
  | _ => none

/-- The sample in a SAMPLE payload of six bytes (R182). -/
def samplePayload (payload : List Byte) : Option Sample :=
  match payload with
  | [seq, a1, a0, status, v1, v0] =>
    some { seq := seq, angle := half a1 a0, contact := status.getLsbD 0, hook := status.getLsbD 1,
           volts := (half v1 v0).setWidth 10 }
  | _ => none

/-- The angle PWU takes: a code above 900 is taken as 900 (R23). -/
def angleTaken (s : Sample) : Nat := min s.angle.toNat Config.maxAngle

/-! ### Table entries (R188) -/

/-- Cut a run of bytes into `n` pieces of `k` bytes. -/
def chunks (k : Nat) : Nat → List Byte → List (List Byte)
  | 0, _ => []
  | n + 1, bytes => bytes.take k :: chunks k n (bytes.drop k)

def readSectionEntry (bytes : List Byte) : Option SectionEntry :=
  match bytes with
  | [v, i1, i0, r, s1, s0, e1, e0, k, c1, c0, p] =>
    some { valid := v.getLsbD 0, id := half i1 i0, route := r, start := half s1 s0, stop := half e1 e0, kind := k,
           cap := half c1 c0, profile := p }
  | _ => none

def sectionEntryBytes (e : SectionEntry) : List Byte :=
  [bitsByte [e.valid]] ++ be16 e.id ++ [e.route] ++ be16 e.start ++ be16 e.stop ++ [e.kind] ++ be16 e.cap ++
    [e.profile]

def readAuxEntry (bytes : List Byte) : Option AuxEntry :=
  match bytes with
  | [v, node, nom, pr, on1, on0, off1, off0, b] =>
    some { valid := v.getLsbD 0, node := node, nominal := nom, priority := pr, minOn := half on1 on0,
           minOff := half off1 off0, battery := b.getLsbD 0 }
  | _ => none

def auxEntryBytes (e : AuxEntry) : List Byte :=
  [bitsByte [e.valid], e.node, e.nominal, e.priority] ++ be16 e.minOn ++ be16 e.minOff ++ [bitsByte [e.battery]]

def readProfileEntry (bytes : List Byte) : Option ProfileEntry :=
  match bytes with
  | [d1, d0, rate, k, s1, s0, b1, b0] =>
    some { drop := half d1 d0, rate := rate, confirm := k, stowedMax := half s1 s0, bandMin := half b1 b0 }
  | _ => none

def profileEntryBytes (e : ProfileEntry) : List Byte :=
  be16 e.drop ++ [e.rate, e.confirm] ++ be16 e.stowedMax ++ be16 e.bandMin

def readParamEntry (bytes : List Byte) : Option Half :=
  match bytes with
  | [hi, lo] => some (half hi lo)
  | _ => none

def readClassEntry (bytes : List Byte) : Option Byte :=
  match bytes with
  | [c] => some c
  | _ => none

/-! ### Write refusals by field (R12, R22, R127) -/

/-- R12: a current cap above 1023 or a section ID above 4095. -/
def sectionWriteRefused (e : SectionEntry) : Bool := decide (1023 < e.cap.toNat) || decide (4095 < e.id.toNat)

/-- R127: a converter node above 63, a priority above 7, or a minimum time above 60000 ms. -/
def auxWriteRefused (e : AuxEntry) : Bool :=
  decide (63 < e.node.toNat) || decide (7 < e.priority.toNat) || decide (60000 < e.minOn.toNat) ||
    decide (60000 < e.minOff.toNat)

/-- R22: a drop angle, stowed maximum or band minimum above 900. -/
def profileWriteRefused (e : ProfileEntry) : Bool :=
  decide (900 < e.drop.toNat) || decide (900 < e.stowedMax.toNat) || decide (900 < e.bandMin.toNat)

/-- Read each piece as an entry, or `none` where one cannot be read or is refused (R170: stored whole or not at
all). -/
def readAll {α : Type} (read : List Byte → Option α) (refused : α → Bool) : List (List Byte) → Option (List α)
  | [] => some []
  | c :: rest =>
    match read c with
    | none => none
    | some e =>
      if refused e then none
      else
        match readAll read refused rest with
        | none => none
        | some es => some (e :: es)

/-- Store entries into a table from a start index onward, in order (R170). -/
def storeEntries {α : Type} {n : Nat} (t : Vector α n) (start : Nat) : List α → Vector α n
  | [] => t
  | e :: rest => storeEntries (t.setIfInBounds start e) (start + 1) rest

end Sys2Proof.Machine
end

