-- ==== Sys2Proof/Machine/Ops.lean ====
section
/-! DEFINITION. Operations shared by the blocks: events handed over and taken, error records, the upstream queue, the
lanes with the hold timer, the command slots and the channel records. -/

namespace Sys2Proof.Machine

/-! ### Addresses and timers -/

/-- The coordinator's node address: 40 plus the strap value (spec/00_scope.md). -/
def partNode (s : State) : Node := 40 + s.strap.setWidth 6

/-- Start a minimum timer: a setting of 0 ms is not started (R107). -/
def startMin (setting : Nat) : Timer := if setting = 0 then none else some setting

/-! ### Events between blocks -/

/-- Hand events over to the blocks that take them, in order. -/
def hand (events : List Instr) (s : State) : State := { s with handed := s.handed ++ events }

/-- A block takes an event: it is no longer one handed over and not taken. -/
def taken (event : Instr) (s : State) : State := { s with handed := s.handed.erase event }

/-! ### Error records (R54, R146) -/

/-- The Port U record takes a code. -/
def errorU (c : ErrCode) (s : State) : State := { s with upi.err := takeCode s.upi.err c }

/-- The Port D record takes a code. -/
def errorD (c : ErrCode) (s : State) : State := { s with dec.err := takeCode s.dec.err c }

/-- The Port S record takes a code. -/
def errorS (c : ErrCode) (s : State) : State := { s with pli.err := takeCode s.pli.err c }

/-! ### The upstream queue (R158) -/

def GroupA.isResponse : GroupA → Bool
  | .response _ _ => true
  | .alarm _ _ => false

def GroupB.isNotice : GroupB → Bool
  | .notice _ => true
  | _ => false

def GroupB.isStatus : GroupB → Bool
  | .status _ => true
  | _ => false

def GroupB.isOther : GroupB → Bool
  | .other _ => true
  | _ => false

/-- Response entries occupied. -/
def responseCount (s : State) : Nat := s.upi.groupA.countP GroupA.isResponse

/-- Place a notice for the report node, or lose it and set the notice-lost flag (R158, R159). -/
def placeNotice (payload : List Byte) (s : State) : State :=
  if s.upi.groupB.countP GroupB.isNotice < Config.noticeEntries then
    { s with upi.groupB := s.upi.groupB ++
        [.notice (builtFrame 7 (reportNode s.mge.params) (partNode s) payload)] }
  else { s with upi.noticeLost := true }

/-- A key's alarm frame takes its waiting frame's place, or a new entry at the tail (R143, R158). -/
def putAlarm (key : AlarmKey) (f : Frame) : List GroupA → List GroupA
  | [] => [.alarm key f]
  | .alarm k g :: rest => if k = key then .alarm key f :: rest else .alarm k g :: putAlarm key f rest
  | .response g r :: rest => .response g r :: putAlarm key f rest

/-- Replace the waiting status entry of the same source node and class, if there is one (R158). -/
def replaceStatus (f : Frame) : List GroupB → Option (List GroupB)
  | [] => none
  | .status g :: rest =>
    if g.src = f.src ∧ g.cls = f.cls then some (.status f :: rest) else (replaceStatus f rest).map (.status g :: ·)
  | x :: rest => (replaceStatus f rest).map (x :: ·)

/-- Pass up a status frame (R149, R158). -/
def passUpStatus (f : Frame) (s : State) : State :=
  match replaceStatus f s.upi.groupB with
  | some g => { s with upi.groupB := g }
  | none =>
    if s.upi.groupB.countP GroupB.isStatus < Config.statusEntries then
      { s with upi.groupB := s.upi.groupB ++ [.status f] }
    else errorD .laneFull s

/-- Pass up a frame of class 6 or 11 to 15 (R149, R158). -/
def passUpOther (f : Frame) (s : State) : State :=
  if s.upi.groupB.countP GroupB.isOther < Config.otherEntries then
    { s with upi.groupB := s.upi.groupB ++ [.other f] }
  else errorD .laneFull s

/-- Place as many waiting response segments as there are unoccupied response entries, in order (R164). -/
def placeSegments (s : State) : State :=
  let room := Config.responseEntries - responseCount s
  { s with upi.groupA := s.upi.groupA ++ (s.mge.toPlace.take room).map (GroupA.response · false),
           mge.toPlace := s.mge.toPlace.drop room }

/-! ### The lanes and the hold timer (R150, R151, R156) -/

def lane0NonEmpty (l : Lanes) : Bool := l.cut.isSome || !l.fifo0.isEmpty

def lane2NonEmpty (l : Lanes) : Bool := !l.slots.isEmpty || !l.fifo2.isEmpty

/-- At least one lane is non-empty (R150). -/
def lanesNonEmpty (l : Lanes) : Bool := lane0NonEmpty l || l.lane1.isSome || lane2NonEmpty l

/-- The hold timer after the lanes change from `before` to `after` within one event (R156). -/
def holdTimer (d : Dec) (setting : Nat) (after : Lanes) : Timer :=
  if d.held = true ∧ lanesNonEmpty after = true then
    if lanesNonEmpty d.lanes = true then d.tHeld
    else if d.heldExpired then none else some setting
  else none

/-- Change the contents of the lanes within one event, keeping the hold timer as R156 says. -/
def changeLanes (f : Lanes → Lanes) (s : State) : State :=
  { s with dec.lanes := f s.dec.lanes, dec.tHeld := holdTimer s.dec (tHeld s.mge.params) (f s.dec.lanes) }

/-- Place a frame in lane 1, in place of any waiting frame (R91, R151). -/
def placeLane1 (f : Frame) (s : State) : State := changeLanes (fun l => { l with lane1 := some f }) s

/-- A forwarded frame joins the lane 0 FIFO or is lost (R150). -/
def forwardLane0 (f : Frame) (s : State) : State :=
  if s.dec.lanes.fifo0.length < Config.lane0Entries then
    changeLanes (fun l => { l with fifo0 := l.fifo0 ++ [f] }) s
  else errorU .laneFull s

/-- A forwarded frame joins the lane 2 general FIFO or is lost (R150). -/
def forwardLane2 (f : Frame) (s : State) : State :=
  if s.dec.lanes.fifo2.length < Config.lane2Entries then
    changeLanes (fun l => { l with fifo2 := l.fifo2 ++ [f] }) s
  else errorU .laneFull s

/-- Place an aux command in its load's slot: it replaces a waiting one and takes the last slot entry order (R126,
R151). -/
def placeCommand (load : LoadIx) (f : Frame) (s : State) : State :=
  changeLanes (fun l => { l with slots := l.slots.filter (fun x => x.1 ≠ load) ++ [(load, f)] }) s

/-! ### Channels and command slots -/

def channel (s : State) : Pole → Channel
  | .p => s.pwu.chP
  | .n => s.pwu.chN

def setChannel (pole : Pole) (c : Channel) (s : State) : State :=
  match pole with
  | .p => { s with pwu.chP := c }
  | .n => { s with pwu.chN := c }

def slot (s : State) : Pole → Slot
  | .p => s.pli.slotP
  | .n => s.pli.slotN

def setSlot (pole : Pole) (x : Slot) (s : State) : State :=
  match pole with
  | .p => { s with pli.slotP := x }
  | .n => { s with pli.slotN := x }

/-- A retriever command enters a pole's slot, whatever the slot holds (R50). -/
def requestCommand (pole : Pole) (cmd : RetrieverCmd) (s : State) : State :=
  let old := slot s pole
  setSlot pole
    { state := .waiting, cmd := some cmd, tx := 0, entry := s.ms, tCmd := some Config.tCmd,
      linePending := old.linePending || decide (old.state = .sending) } s

/-- Whether a kind is a gap: INSULATOR or DEAD (R14, R24). -/
def isGap : SectionKind → Bool
  | .insulator => true
  | .dead => true
  | _ => false

/-- The line voltage: the lower of the two latest pole voltages (R73). -/
def lineVolts (s : State) : Nat := min s.cbu.voltsP.toNat s.cbu.voltsN.toNat

end Sys2Proof.Machine
end

