-- ==== Sys2Proof/Machine/PoleLine.lean ====
section
/-! DEFINITION. The Pole Line Interface (spec/03_pole_line.md): frames received on Port S, the command slots, sending and
arbitration, and the delivery limit. -/

namespace Sys2Proof.Machine

/-! ### Receiving (R47 to R49) -/

/-- The last accepted sequence number of a pole (R49). -/
def lastSeq (s : State) : Pole → Option Byte
  | .p => s.pli.seqP
  | .n => s.pli.seqN

def setLastSeq (pole : Pole) (seq : Byte) (s : State) : State :=
  match pole with
  | .p => { s with pli.seqP := some seq }
  | .n => { s with pli.seqN := some seq }

/-- The pole of a sample's source address (R48, case 4). -/
def poleOfSource (source : BitVec 4) : Option Pole :=
  if source = 2 then some .p else if source = 3 then some .n else none

/-- R49: discard a duplicate, or accept the sample and deliver it to PWU. -/
def acceptSample (pole : Pole) (x : Sample) (s : State) : State :=
  if lastSeq s pole = some x.seq then s
  else hand [.sampleAccepted pole x] (setLastSeq pole x.seq s)

/-- The payload length that a kind calls for: 6 for SAMPLE, 1 for COMMAND (R182). -/
def kindLength (kind : BitVec 2) : Nat := if kind = 1 then 6 else 1

/-- R48: judge an acknowledged frame, the cases in order. -/
def judgeLineFrame (f : LineFrame) (s : State) : State :=
  if f.kind ≠ 1 ∧ f.kind ≠ 2 then errorS .badField s
  else if f.payload.length ≠ kindLength f.kind then errorS .length s
  else if f.kind = 2 then errorS .badField s
  else
    match poleOfSource f.source, samplePayload f.payload with
    | some pole, some x => acceptSample pole x s
    | _, _ => errorS .badField s

/-- R47: a frame of another station ends; PLI drives the acknowledge slot dominant exactly when the check is good and
the destination is 1. The line is idle again after it (R43). -/
def receiveLine (bytes : List Byte) (s : State) : State :=
  match parseLine bytes with
  | none => errorS .checkFailed { s with pli.lineBusy := false, pli.ackDriven := false }
  | some f =>
    if f.dst = 1 then judgeLineFrame f { s with pli.lineBusy := false, pli.ackDriven := true }
    else { s with pli.lineBusy := false, pli.ackDriven := false }

/-- R55: the end of the frame met under way at power-on is not acted on; the line is idle after it, and PLI, which has not
followed the frame, leaves its acknowledge slot recessive. -/
def skipLineFrame (s : State) : State :=
  { s with pli.underWay := false, pli.lineBusy := false, pli.ackDriven := false }

/-- PORT_S_FRAME_RECEIVED (R47, R55). -/
def execPortSFrameReceived (bytes : List Byte) (s : State) : Host.Outcome State Fault Refusal :=
  .next (if s.pli.underWay then skipLineFrame s else receiveLine bytes s)

/-! ### Sending (R45, R46, R51 to R53) -/

/-- How long ago a command entered its slot; with a wrapping count this orders entry times (R51, DEDUCED). -/
def slotAge (s : State) (pole : Pole) : Millis := s.ms - (slot s pole).entry

/-- The slot whose command is sent next: WAITING, the earlier entry time, P on a tie (R51). -/
def nextSlot (s : State) : Option Pole :=
  if s.pli.slotP.state = .waiting then
    if s.pli.slotN.state = .waiting ∧ (slotAge s .p).toNat < (slotAge s .n).toNat then some .n else some .p
  else if s.pli.slotN.state = .waiting then some .n
  else none

/-- Start the command frame of a slot: the slot becomes SENDING (R51). -/
def startCommand (pole : Pole) (s : State) : State :=
  match (slot s pole).cmd with
  | none => s
  | some cmd =>
    let s := setSlot pole { slot s pole with state := .sending } s
    { s with pli.sending := some { pole := pole, cmd := cmd, wire := commandWire pole cmd, orphan := false } }

/-- COMMAND_TX_START (R51): on an idle line, with no frame of PLI's on it, PLI starts the next command. -/
def execCommandTxStart (s : State) : Host.Outcome State Fault Refusal :=
  .next <|
    if s.pli.sending.isSome || s.pli.lineBusy then s
    else
      match nextSlot s with
      | none => s
      | some pole => startCommand pole s

/-- The slot after a lost arbitration: the command waits again, or the frame of a replaced or dropped command is over
and the slot keeps its content (R45). -/
def slotAfterLoss (x : Slot) : Slot :=
  if x.linePending then { x with linePending := false } else { x with state := .waiting }

/-- ARBITRATION_LOST (R45): PLI stops driving; the winning frame is on the line. -/
def execArbitrationLost (s : State) : Host.Outcome State Fault Refusal :=
  .next <|
    match s.pli.sending with
    | none => s
    | some t =>
      let s1 := { s with pli.sending := none, pli.lineBusy := true }
      if t.orphan then s1 else setSlot t.pole (slotAfterLoss (slot s t.pole)) s1

/-- An emptied slot: command absent, transmissions 0, T_cmd stopped (R52, R53). -/
def emptySlot (x : Slot) : Slot := { x with state := .empty, cmd := none, tx := 0, tCmd := none }

/-- The slot after an acknowledged frame (R52). -/
def slotAfterAck (x : Slot) : Slot := if x.linePending then { x with linePending := false } else emptySlot x

/-- The slot after an unacknowledged frame (R52). -/
def slotAfterNoAck (x : Slot) : Slot :=
  if x.linePending then { x with linePending := false }
  else if x.tx + 1 < Config.maxTransmissions then { x with state := .waiting, tx := x.tx + 1 }
  else { x with state := .spent, tx := Config.maxTransmissions }

/-- R52: a transmission of a slot ends. -/
def endCommand (pole : Pole) (acknowledged : Bool) (s : State) : State :=
  if acknowledged then
    setSlot pole (slotAfterAck (slot s pole)) (hand [.alarmClear .poleLineFault] s)
  else setSlot pole (slotAfterNoAck (slot s pole)) (errorS .noAck s)

/-- COMMAND_TX_END (R46, R52); the ending of a frame from before a RESTART is not acted on (R55). -/
def execCommandTxEnd (acknowledged : Bool) (s : State) : Host.Outcome State Fault Refusal :=
  .next <|
    match s.pli.sending with
    | none => s
    | some t =>
      let s1 := { s with pli.sending := none }
      if t.orphan then s1 else endCommand t.pole acknowledged s1

/-- The slot after its T_cmd expires: EMPTY, and the outcome pending when its frame is on the line (R53). -/
def slotAfterLimit (x : Slot) : Slot :=
  emptySlot { x with linePending := x.linePending || decide (x.state = .sending) }

/-- T_CMD_EXPIRY (R53). A stopped T_cmd does not expire. -/
def execTCmdExpiry (pole : Pole) (s : State) : Host.Outcome State Fault Refusal :=
  .next <|
    match (slot s pole).tCmd with
    | none => s
    | some _ => hand [.alarmRaise .poleLineFault false] (setSlot pole (slotAfterLimit (slot s pole)) s)

end Sys2Proof.Machine
end

