-- ==== Sys2Proof/Machine/Budget.lean ====
section
/-! DEFINITION. The Current Budget Unit (spec/05_current_budget_arithmetic.md): the tapers, the record for each mode,
recomputing and publishing. -/

namespace Sys2Proof.Machine

/-- The undervoltage taper at a voltage (R74). -/
def undervoltageTaper (t : ParamTable) (v : Nat) : Nat :=
  if v ≤ vMin t then 0
  else if vKnee t ≤ v then iLineMax t
  else iLineMax t * (v - vMin t) / (vKnee t - vMin t)

/-- The regeneration taper at a voltage (R75). -/
def regenTaper (t : ParamTable) (v : Nat) : Nat :=
  if v ≤ vRk t then gMax t
  else if vRmax t ≤ v then 0
  else gMax t * (vRmax t - v) / (vRmax t - vRk t)

/-- A_line: the least of I_line_max, the section cap and the undervoltage taper (R74). -/
def lineAllowance (t : ParamTable) (cap v : Nat) : Nat := min (iLineMax t) (min cap (undervoltageTaper t v))

/-- A motoring row of R77 for a supply A_s. -/
def motoringRow (t : ParamTable) (mode : SupplyMode) (supply regen r : Nat) : BudgetRecord :=
  { mode := mode, supply := supply, auxCap := supply - tFloor t, motoring := supply - r, regen := regen,
    reservation := r }

/-- A coasting row of R77. -/
def coastingRow (t : ParamTable) (mode : SupplyMode) (r : Nat) : BudgetRecord :=
  { mode := mode, supply := aBatt t, auxCap := aBatt t, motoring := 0, regen := gBatt t, reservation := r }

/-- The modes whose row is a coasting row (R77). -/
def isCoasting : SupplyMode → Bool
  | .gap .insulator => true
  | .unresolved => true
  | .dewired => true
  | _ => false

/-- R77: the record from the mode, the section cap, the line voltage, the parameters and the reservation. -/
def budgetFor (t : ParamTable) (mode : SupplyMode) (cap v r : Nat) : BudgetRecord :=
  match mode with
  | .wire => motoringRow t mode (lineAllowance t cap v) (regenTaper t v) r
  | .gap .dead => motoringRow t mode (aBatt t) (gBatt t) r
  | .noLine => motoringRow t mode (aBatt t) (gBatt t) r
  | .battery => motoringRow t mode (aBatt t) (gBatt t) r
  | .gap .insulator => coastingRow t mode r
  | .unresolved => coastingRow t mode r
  | .dewired => coastingRow t mode r

/-- The record computed from CBU's inputs as they stand (R79). -/
def computeRecord (s : State) : BudgetRecord :=
  budgetFor s.mge.params s.cbu.record.mode s.cbu.cap (lineVolts s) s.cbu.record.reservation

/-- R79 and R80: recompute, and publish a record that differs from the one last published. -/
def recompute (s : State) : State :=
  let r := computeRecord s
  if r = s.cbu.published then { s with cbu.record := r }
  else hand [.budgetRecordAtTau r, .budgetRecordAtAxs r] { s with cbu.record := r, cbu.published := r }

/-- Store a pole's latest voltage (R72). -/
def setVolts (pole : Pole) (v : BitVec 10) (s : State) : State :=
  match pole with
  | .p => { s with cbu.voltsP := v }
  | .n => { s with cbu.voltsN := v }

/-- VOLTAGE_SAMPLE (R72). -/
def execVoltageSample (pole : Pole) (v : BitVec 10) (s : State) : Host.Outcome State Fault Refusal :=
  .next (recompute (setVolts pole v (taken (.voltageSample pole v) s)))

/-- MODE_AT_CBU (R79, event 2). -/
def execModeAtCbu (mode : SupplyMode) (s : State) : Host.Outcome State Fault Refusal :=
  let s := taken (.modeAtCbu mode) s
  .next (recompute { s with cbu.record.mode := mode })

/-- SECTION_VIEW_AT_CBU (R79, event 3): CBU stores the cap of the view first (R74; log entry 5). -/
def execSectionViewAtCbu (v : View) (s : State) : Host.Outcome State Fault Refusal :=
  let s := taken (.sectionViewAtCbu v) s
  .next (recompute { s with cbu.cap := v.cap })

/-- RESERVATION_AT_CBU (R81). -/
def execReservationAtCbu (r : Nat) (s : State) : Host.Outcome State Fault Refusal :=
  let s := taken (.reservationAtCbu r) s
  .next (recompute { s with cbu.record.reservation := r })

/-- CBU_PARAMETER_COMMIT (R82): the new parameters, with the cap of the view that CBU has taken. -/
def execCbuParameterCommit (s : State) : Host.Outcome State Fault Refusal :=
  .next (recompute (taken .cbuParameterCommit s))

end Sys2Proof.Machine
end

