-- ==== Sys2Proof/Machine/Traction.lean ====
section
/-! DEFINITION. The Traction Admission Unit (spec/06_traction_demand_admission.md) with the admission arithmetic of
spec/05_current_budget_arithmetic.md, 5.6: demands, re-clips, staleness, the safety cut and its confirmation. -/

namespace Sys2Proof.Machine

/-! ### Admission arithmetic (R84 to R86) -/

/-- R84: clip a demand to the allowances. -/
def clipDemand (r : BudgetRecord) (d : Int) : Int :=
  if 0 ≤ d then min d r.motoring else max d (-(r.regen : Int))

/-- A magnitude with the sign of a value. -/
def withSign (c : Int) (m : Nat) : Int := if 0 ≤ c then (m : Int) else -(m : Int)

/-- R85: the step stage, from the last admitted demand `p` to the clipped value `c`. -/
def stepDemand (step : Nat) (p c : Int) : Int :=
  if (0 < c ∧ p < 0) ∨ (c < 0 ∧ 0 < p) then withSign c (min c.natAbs step)
  else if p.natAbs < c.natAbs then withSign c (min c.natAbs (p.natAbs + step))
  else c

/-- R86: the limit reason, the cases in order. -/
def limitReason (mode : SupplyMode) (d c a : Int) : LimitReason :=
  if a.natAbs < c.natAbs then .step
  else if c ≠ d ∧ 0 < d ∧ isCoasting mode = true then .mode
  else if c ≠ d ∧ 0 < d then .budget
  else if c ≠ d ∧ d < 0 then .regen
  else .none

/-! ### Frames -/

/-- The payload of a rewritten demand or re-clip frame (R184). -/
def demandPayload (a d : Int) (reason : LimitReason) : List Byte := signed16 a ++ signed16 d ++ [reasonCode reason]

/-- R93: a re-clip frame with the new p and the last requested demand. -/
def reclipFrame (s : State) (reason : LimitReason) : Frame :=
  builtFrame 1 (inverterNode s.mge.params) (partNode s) (demandPayload s.tau.admitted s.tau.requested reason)

/-- The payload of a cut frame (R97, R184). -/
def cutPayload (cause : CutCause) : List Byte := signed16 0 ++ [cutCauseCode cause]

/-- R97: a cut frame. -/
def cutFrame (s : State) (cause : CutCause) : Frame :=
  builtFrame 0 (inverterNode s.mge.params) (partNode s) (cutPayload cause)

/-! ### Demands (R90, R91) -/

/-- R90 and R91: a taken demand is admitted and its rewritten frame placed in lane 1. -/
def admitDemand (f : Frame) (d : Int) (s : State) : State :=
  let c := clipDemand s.tau.record d
  let a := stepDemand (sStep s.mge.params) s.tau.admitted c
  let reason := limitReason s.tau.record.mode d c a
  placeLane1 { f with cls := 1, payload := demandPayload a d reason }
    { s with tau.admitted := a, tau.requested := d, tau.tStale := some (tStale s.mge.params) }

/-- TRACTION_DEMAND (R90). -/
def execTractionDemand (f : Frame) (s : State) : Host.Outcome State Fault Refusal :=
  let s := taken (.tractionDemand f) s
  .next <|
    match currentPayload f.payload with
    | none => errorU .badField s
    | some d => admitDemand f d s

/-! ### Re-clips and staleness (R92 to R94) -/

/-- Set p and send a re-clip frame with it. -/
def reclip (p : Int) (reason : LimitReason) (s : State) : State :=
  let s := { s with tau.admitted := p }
  placeLane1 (reclipFrame s reason) s

/-- R92: judge p against a new record. -/
def takeRecord (r : BudgetRecord) (s : State) : State :=
  let s := { s with tau.record := r }
  if (r.motoring : Int) < s.tau.admitted then
    reclip r.motoring (if isCoasting r.mode then .mode else .budget) s
  else if s.tau.admitted < -(r.regen : Int) then reclip (-(r.regen : Int)) .regen s
  else s

/-- BUDGET_RECORD_AT_TAU (R92). -/
def execBudgetRecordAtTau (r : BudgetRecord) (s : State) : Host.Outcome State Fault Refusal :=
  .next (takeRecord r (taken (.budgetRecordAtTau r) s))

/-- R94: hold the demand to zero and report the value held before. -/
def holdStale (s : State) : State :=
  let s := { s with tau.tStale := none }
  if s.tau.admitted = 0 then s
  else placeNotice ([5] ++ signed16 s.tau.admitted ++ signed16 s.tau.requested) (reclip 0 .mode s)

/-- T_STALE_EXPIRY (R94). A stopped T_stale does not expire. -/
def execTStaleExpiry (s : State) : Host.Outcome State Fault Refusal :=
  .next <|
    match s.tau.tStale with
    | none => s
    | some _ => holdStale s

/-! ### The safety cut (R96 to R98) -/

/-- The lanes after a cut request: lane 1 emptied, and the waiting cut frame with the new cause, or a new one (R96,
R97, R151). -/
def cutLanes (waiting : Bool) (fresh : Frame) (cause : CutCause) (l : Lanes) : Lanes :=
  { l with lane1 := none,
           cut := if waiting then l.cut.map (fun f => { f with payload := cutPayload cause }) else some fresh }

/-- R96: a cut request. -/
def requestCut (cause : CutCause) (s : State) : State :=
  changeLanes (cutLanes s.tau.cutWaiting.isSome (cutFrame s cause) cause)
    { s with tau.admitted := 0, tau.cutWaiting := some cause }

/-- CUT_REQUEST (R96). -/
def execCutRequest (cause : CutCause) (s : State) : Host.Outcome State Fault Refusal :=
  .next (requestCut cause (taken (.cutRequest cause) s))

/-- R98: the transmission of TAU's cut frame begins; it is no longer waiting. -/
def cutBegun (s : State) : State := { s with tau.cutWaiting := none }

/-- R98: the transmission of TAU's cut frame ends; the window opens or T_cut starts again. -/
def cutEnded (s : State) : State := { s with tau.window := true, tau.tCut := some (tCut s.mge.params) }

/-! ### Confirmation (R99, R100) -/

/-- R99: judge a measured current against I_residual. -/
def judgeStatus (measured : Int) (s : State) : State :=
  if measured.natAbs ≤ iResidual s.mge.params then
    let s1 := if s.tau.window then { s with tau.window := false, tau.tCut := none } else s
    if s1.tau.unconfirmed then hand [.alarmClear .cutUnconfirmed] { s1 with tau.unconfirmed := false } else s1
  else s

/-- DRIVE_STATUS (R99). -/
def execDriveStatus (f : Frame) (s : State) : Host.Outcome State Fault Refusal :=
  let s := taken (.driveStatus f) s
  .next <|
    match currentPayload f.payload with
    | none => errorD .badField s
    | some i => judgeStatus i s

/-- T_CUT_EXPIRY (R100). A stopped T_cut does not expire. -/
def execTCutExpiry (s : State) : Host.Outcome State Fault Refusal :=
  .next <|
    match s.tau.tCut with
    | none => s
    | some _ =>
      hand [.alarmRaise .cutUnconfirmed false]
        { s with tau.window := false, tau.tCut := none, tau.unconfirmed := true }

end Sys2Proof.Machine
end

