-- ==== Sys2Proof/Machine/Egress.lean ====
section
/-! DEFINITION. The Drive Egress Controller (spec/09_frame_paths_and_egress_lanes.md): frames received on Port D, grants, ends of
transmission and the drive-side hold. -/

namespace Sys2Proof.Machine

/-! ### Reception (R147, R149) -/

/-- R149: classify an accepted Port D frame by its class: pass it up, then hand over the status frames watched. -/
def classifyD (f : Frame) (s : State) : State :=
  if f.cls = 9 then
    let s := passUpStatus f s
    if f.src = inverterNode s.mge.params then hand [.driveStatus f] s else s
  else if f.cls = 10 then hand [.auxStatus f] (passUpStatus f s)
  else if f.cls = 6 ∨ 11 ≤ f.cls.toNat then passUpOther f s
  else errorD .classRefused s

/-- R147, R149: a frame that ends on Port D is refused, or classified. -/
def receiveD (bytes : List Byte) (s : State) : State :=
  match parseFrame bytes with
  | .error c => errorD c s
  | .ok f => classifyD f s

/-- PORT_D_FRAME_RECEIVED (R147, R149); a frame met under way at power-on is not received (R161). -/
def execPortDFrameReceived (bytes : List Byte) (s : State) : Host.Outcome State Fault Refusal :=
  .next (if s.dec.underWay then { s with dec.underWay := false } else receiveD bytes s)

/-! ### Grants (R152, R153) -/

/-- R152: the lane of the next grant and the consecutive grant count after it. -/
def nextLane (l : Lanes) (count : Nat) : Option (Lane × Nat) :=
  let after := if lane2NonEmpty l then count + 1 else 0
  if lane2NonEmpty l ∧ Config.grantBound ≤ count then some (.general, 0)
  else if lane0NonEmpty l then some (.safety, after)
  else if l.lane1.isSome then some (.traction, after)
  else if lane2NonEmpty l then some (.general, 0)
  else none

/-- R153: the frame a granted lane sends, the lanes without it, and whether it is TAU's cut frame. -/
def takeFrom (lane : Lane) (l : Lanes) : Option (Frame × Lanes × Bool) :=
  match lane with
  | .safety =>
    match l.cut, l.fifo0 with
    | some f, _ => some (f, { l with cut := none }, true)
    | none, f :: rest => some (f, { l with fifo0 := rest }, false)
    | none, [] => none
  | .traction => l.lane1.map fun f => (f, { l with lane1 := none }, false)
  | .general =>
    match l.slots, l.fifo2 with
    | (_, f) :: rest, _ => some (f, { l with slots := rest }, false)
    | [], f :: rest => some (f, { l with fifo2 := rest }, false)
    | [], [] => none

/-- Start a frame on Port D, its check sequence computed as it is sent (R153, R180). -/
def startPortD (f : Frame) (lane : Lane) (isCut : Bool) (s : State) : State :=
  let s := { s with dec.sending := some { wire := frameWire f, lane := lane, cut := isCut, orphan := false } }
  if isCut then cutBegun s else s

/-- R152: the grant, where one is allowed: nothing being sent, no hold, a lane non-empty. -/
def grant (s : State) : State :=
  if s.dec.sending.isSome || s.dec.held then s
  else
    match nextLane s.dec.lanes s.dec.grants with
    | none => s
    | some (lane, count) =>
      match takeFrom lane s.dec.lanes with
      | none => s
      | some (f, rest, isCut) => startPortD f lane isCut { s with dec.lanes := rest, dec.grants := count }

/-- PORT_D_GRANT (R152). Where no grant is allowed, none is made. -/
def execPortDGrant (s : State) : Host.Outcome State Fault Refusal := .next (grant s)

/-! ### Ends of transmission and the hold (R154 to R156) -/

/-- R156: clear DRIVE_LINK_HELD when the flag is true, no hold is in effect and lane 0 is empty. -/
def judgeLinkHeld (s : State) : State :=
  if s.dec.linkHeld && !s.dec.held && !lane0NonEmpty s.dec.lanes then
    hand [.alarmClear .driveLinkHeld] { s with dec.linkHeld := false }
  else s

/-- R154: the end of a transmission; one from before a RESTART is neither reported nor judged (R160). -/
def endPortD (t : PortDTx) (s : State) : State :=
  let s1 := { s with dec.sending := none }
  let s2 := if t.cut && !t.orphan then cutEnded s1 else s1
  let s3 := if decide (t.lane = .safety) && !t.orphan then judgeLinkHeld s2 else s2
  grant s3

/-- PORT_D_TX_END (R154). -/
def execPortDTxEnd (s : State) : Host.Outcome State Fault Refusal :=
  .next <|
    match s.dec.sending with
    | none => s
    | some t => endPortD t s

/-- HOLD_START (R155, R156): grants stop, and the hold timer starts if a lane is non-empty. -/
def execHoldStart (s : State) : Host.Outcome State Fault Refusal :=
  .next <|
    if s.dec.held then s
    else
      { s with dec.held := true, dec.heldExpired := false,
               dec.tHeld := if lanesNonEmpty s.dec.lanes then some (tHeld s.mge.params) else none }

/-- HOLD_END (R155, R156): the timer stops, DRIVE_LINK_HELD is judged on lane 0 as the end of the hold finds it
(DEDUCED), and a grant is made. -/
def execHoldEnd (s : State) : Host.Outcome State Fault Refusal :=
  .next <|
    if s.dec.held then
      grant (judgeLinkHeld { s with dec.held := false, dec.heldExpired := false, dec.tHeld := none })
    else s

/-- HOLD_TIMER_EXPIRY (R156). A stopped timer does not expire. -/
def execHoldTimerExpiry (s : State) : Host.Outcome State Fault Refusal :=
  .next <|
    match s.dec.tHeld with
    | none => s
    | some _ =>
      hand [.alarmRaise .driveLinkHeld false]
        { s with dec.tHeld := none, dec.heldExpired := true, dec.linkHeld := true }

end Sys2Proof.Machine
end

