-- ==== Sys2Proof/Machine/PoleWatch.lean ====
section
/-! DEFINITION. The Pole Watch Unit (spec/02_pole_watch.md): samples, the pole state machine, drops, the pole timers, raising
and lowering, act masks and the settings lock's effect on them. -/

namespace Sys2Proof.Machine

/-! ### Criteria (R21, R24) -/

/-- The active profile that the recorded view names (R21, R40). -/
def activeProfile (s : State) : ProfileEntry :=
  if h : s.pwu.view.profile < 4 then s.pwu.active[s.pwu.view.profile] else s.pwu.active[0]

/-- Criterion (a): high angle. -/
def highAngle (e : ProfileEntry) (angle : Nat) : Bool := decide (e.drop.toNat ≤ angle)

/-- Criterion (b): fast rise against a previous angle that is present. -/
def fastRise (e : ProfileEntry) (prev : Option Nat) (angle : Nat) : Bool :=
  match prev with
  | none => false
  | some q => decide (q + e.rate.toNat ≤ angle)

/-- Criterion (c): contact loss, masked in INSULATOR and DEAD sections. -/
def contactLoss (kind : SectionKind) (contact : Bool) : Bool := !contact && !isGap kind

/-- The working band of a profile (R21). -/
def inBand (e : ProfileEntry) (angle : Nat) : Bool := decide (e.bandMin.toNat ≤ angle) && decide (angle < e.drop.toNat)

/-- A good sample (R24). -/
def goodSample (e : ProfileEntry) (prev : Option Nat) (angle : Nat) (contact : Bool) : Bool :=
  contact && inBand e angle && !fastRise e prev angle

/-- The hook latched and the angle at or below the stowed maximum. -/
def stowedSample (e : ProfileEntry) (angle : Nat) (hook : Bool) : Bool :=
  hook && decide (angle ≤ e.stowedMax.toNat)

/-! ### Drops (R32, R33) -/

/-- Begin a retrieval: PULL_DOWN requested, RETRIEVING, T_retr started (R32, R33). -/
def startRetrieval (pole : Pole) (s : State) : State :=
  let s := requestCommand pole .pullDown s
  setChannel pole { channel s pole with state := .retrieving, tRetr := some (tRetr s.mge.params) } s

/-- R32: entry to DROPPED. -/
def enterDropped (pole : Pole) (s : State) : State :=
  let acted : Bool := decide ((channel s pole).mask = .autonomous)
  let c := { channel s pole with
    state := .dropped, tRaise := none, suspect := 0, good := 0, lastDropActed := acted }
  let s := hand [.alarmRaise (.poleDrop pole) acted] (setChannel pole c s)
  if acted then startRetrieval pole s else s

/-! ### The state machine on a sample (R25 to R31) -/

/-- Enter ON_WIRE with both counts 0 and ask for POLE_DROP to be cleared (R25, R29, R30). -/
def enterOnWire (pole : Pole) (s : State) : State :=
  hand [.alarmClear (.poleDrop pole)]
    (setChannel pole { channel s pole with state := .onWire, suspect := 0, good := 0, tRaise := none } s)

/-- R25: UNKNOWN or LOST resolves. -/
def resolveChannel (pole : Pole) (e : ProfileEntry) (angle : Nat) (contact hook : Bool) (s : State) : State :=
  if stowedSample e angle hook then
    hand [.alarmClear (.poleDrop pole), .alarmClear (.retrieveFail pole)]
      (setChannel pole { channel s pole with state := .stowed } s)
  else if inBand e angle && contact then enterOnWire pole s
  else enterDropped pole s

/-- R26: STOWED looks at the hook. -/
def stowedOnSample (pole : Pole) (e : ProfileEntry) (angle : Nat) (hook : Bool) (s : State) : State :=
  if hook || decide (angle ≤ e.stowedMax.toNat) then s else enterDropped pole s

/-- R27 and R28: a suspect sample brings the run to `count`; K or more is a drop. -/
def suspectTo (pole : Pole) (e : ProfileEntry) (count : Nat) (s : State) : State :=
  if e.confirm.toNat ≤ count then enterDropped pole s
  else setChannel pole { channel s pole with state := .suspect, suspect := count } s

/-- R27 (from count 0) and R28 (from the count so far). -/
def runningOnSample (pole : Pole) (e : ProfileEntry) (angle : Nat) (contact : Bool) (before : Nat) (s : State) :
    State :=
  if fastRise e (channel s pole).prevAngle angle then enterDropped pole s
  else if highAngle e angle || contactLoss s.pwu.view.kind contact then suspectTo pole e (before + 1) s
  else setChannel pole { channel s pole with state := .onWire, suspect := 0 } s

/-- R29: RAISING. -/
def raisingOnSample (pole : Pole) (e : ProfileEntry) (angle : Nat) (contact : Bool) (s : State) : State :=
  let c := channel s pole
  if highAngle e angle || fastRise e c.prevAngle angle then enterDropped pole s
  else if goodSample e c.prevAngle angle contact then
    if e.confirm.toNat ≤ c.good + 1 then enterOnWire pole s
    else setChannel pole { c with good := c.good + 1 } s
  else setChannel pole { c with good := 0 } s

/-- R30: DROPPED under REPORT_ONLY. -/
def droppedOnSample (pole : Pole) (e : ProfileEntry) (angle : Nat) (contact hook : Bool) (s : State) : State :=
  let c := channel s pole
  if goodSample e c.prevAngle angle contact then
    if e.confirm.toNat ≤ c.good + 1 then enterOnWire pole s
    else setChannel pole { c with good := c.good + 1 } s
  else if stowedSample e angle hook then
    hand [.alarmClear (.poleDrop pole)] (setChannel pole { c with state := .stowed, good := 0 } s)
  else setChannel pole { c with good := 0 } s

/-- R31: RETRIEVING or LOWERING. -/
def retrievalOnSample (pole : Pole) (e : ProfileEntry) (angle : Nat) (hook : Bool) (s : State) : State :=
  if stowedSample e angle hook then
    let s := requestCommand pole .hold (setChannel pole { channel s pole with state := .stowed, tRetr := none } s)
    hand [.alarmClear (.poleDrop pole), .alarmClear (.retrieveFail pole)] s
  else s

/-- R23, step 4: the transition that the channel's state calls for. -/
def judgeSample (pole : Pole) (angle : Nat) (contact hook : Bool) (s : State) : State :=
  let e := activeProfile s
  match (channel s pole).state with
  | .unknown => resolveChannel pole e angle contact hook s
  | .lost => resolveChannel pole e angle contact hook s
  | .stowed => stowedOnSample pole e angle hook s
  | .onWire => runningOnSample pole e angle contact 0 s
  | .suspect => runningOnSample pole e angle contact (channel s pole).suspect s
  | .raising => raisingOnSample pole e angle contact s
  | .dropped => droppedOnSample pole e angle contact hook s
  | .retrieving => retrievalOnSample pole e angle hook s
  | .lowering => retrievalOnSample pole e angle hook s

/-- R23, steps 1 to 3: store the sample, restart T_smp, and in LOST ask for SENSOR_LOST to be cleared. -/
def storeSample (pole : Pole) (x : Sample) (s : State) : State :=
  let c := channel s pole
  let last : LastSample :=
    { seq := x.seq, angle := angleTaken x, contact := x.contact, hook := x.hook, volts := x.volts }
  let s := setChannel pole { c with last := some last, tSmp := some (tSmp s.mge.params) } s
  if c.state = .lost then hand [.alarmClear (.sensorLost pole)] s else s

/-- R23, steps 5 and 6: the previous angle, the voltage sample and the pole report. -/
def finishSample (pole : Pole) (x : Sample) (before : PoleState) (s : State) : State :=
  let c := { channel s pole with prevAngle := some (angleTaken x) }
  hand [.voltageSample pole x.volts, .poleReport pole c.state (decide (c.state ≠ before))] (setChannel pole c s)

/-- R23: take an accepted sample. -/
def takeSample (pole : Pole) (x : Sample) (s : State) : State :=
  finishSample pole x (channel s pole).state
    (judgeSample pole (angleTaken x) x.contact x.hook (storeSample pole x s))

/-- SAMPLE_ACCEPTED (R23). -/
def execSampleAccepted (pole : Pole) (x : Sample) (s : State) : Host.Outcome State Fault Refusal :=
  .next (takeSample pole x (taken (.sampleAccepted pole x) s))

/-! ### Timers (R36 to R38) -/

/-- R36: the channel enters LOST. -/
def loseSensor (pole : Pole) (s : State) : State :=
  let c := channel s pole
  hand [.alarmRaise (.sensorLost pole) false, .poleReport pole .lost (decide (c.state ≠ .lost))]
    (setChannel pole { c with state := .lost, prevAngle := none, suspect := 0, good := 0, tSmp := none,
                              tRaise := none, tRetr := none } s)

/-- T_SMP_EXPIRY (R36). A stopped T_smp does not expire. -/
def execTSmpExpiry (pole : Pole) (s : State) : Host.Outcome State Fault Refusal :=
  .next <|
    match (channel s pole).tSmp with
    | none => s
    | some _ => loseSensor pole s

/-- Start pulling a pole down: PULL_DOWN, good count 0, T_raise stopped, LOWERING with T_retr started, and a pole
report (R35, R37). -/
def startLowering (pole : Pole) (s : State) : State :=
  let s := requestCommand pole .pullDown s
  hand [.poleReport pole .lowering true]
    (setChannel pole { channel s pole with state := .lowering, good := 0, tRaise := none,
                                           tRetr := some (tRetr s.mge.params) } s)

/-- R35: lower one pole on request; the suspect count is set to 0 as well. -/
def lowerPole (pole : Pole) (s : State) : State :=
  startLowering pole (setChannel pole { channel s pole with suspect := 0 } s)

/-- T_RAISE_EXPIRY (R37): the RAISE_FAILED notice names the pole. A stopped T_raise does not expire. -/
def execTRaiseExpiry (pole : Pole) (s : State) : Host.Outcome State Fault Refusal :=
  .next <|
    match (channel s pole).tRaise with
    | none => s
    | some _ => startLowering pole (placeNotice [3, poleCode pole] s)

/-- R38: RETRIEVE_FAIL raised or repeated, PULL_DOWN again, T_retr restarted. -/
def repeatRetrieval (pole : Pole) (s : State) : State :=
  let s := requestCommand pole .pullDown (hand [.alarmRaise (.retrieveFail pole) false] s)
  setChannel pole { channel s pole with tRetr := some (tRetr s.mge.params) } s

/-- T_RETR_EXPIRY (R38). A stopped T_retr does not expire. -/
def execTRetrExpiry (pole : Pole) (s : State) : Host.Outcome State Fault Refusal :=
  .next <|
    match (channel s pole).tRetr with
    | none => s
    | some _ => repeatRetrieval pole s

/-- SECTION_VIEW_AT_PWU (R40). -/
def execSectionViewAtPwu (v : View) (s : State) : Host.Outcome State Fault Refusal :=
  let s := taken (.sectionViewAtPwu v) s
  .next { s with pwu.view := v }

/-! ### Requests (R20, R34, R35) and the settings lock (R33) -/

/-- R34: release one pole into RAISING. -/
def startRaise (pole : Pole) (s : State) : State :=
  let s := requestCommand pole .release s
  hand [.poleReport pole .raising true]
    (setChannel pole { channel s pole with state := .raising, good := 0, tRaise := some (tRaise s.mge.params) } s)

/-- R34: the judgement of POLE_RAISE, in order. -/
def judgeRaise (poles : List Pole) (s : State) : Status :=
  if poles.any (fun q => decide ((channel s q).state ≠ .stowed)) then .busy
  else if s.smc.mode = .dewired then .busy
  else if s.pwu.view.kind = .insulator ∨ s.pwu.view.kind = .wireless then .wrongSection
  else .ok

/-- R34: POLE_RAISE of the named poles. -/
def raisePoles (poles : List Pole) (s : State) : State × Status :=
  match judgeRaise poles s with
  | .ok => (poles.foldl (fun t q => startRaise q t) s, .ok)
  | r => (s, r)

/-- R35: to be lowered. -/
def canLower : PoleState → Bool
  | .onWire => true
  | .suspect => true
  | .raising => true
  | _ => false

/-- R35: POLE_LOWER of the named poles; a pole neither to be lowered nor STOWED makes the request BUSY. -/
def lowerPoles (poles : List Pole) (s : State) : State × Status :=
  if poles.any (fun q => !canLower (channel s q).state && decide ((channel s q).state ≠ .stowed)) then (s, .busy)
  else ((poles.filter (fun q => canLower (channel s q).state)).foldl (fun t q => lowerPole q t) s, .ok)

/-- R20: SET_ACT_MASK of one pole. -/
def setMask (pole : Pole) (mask : ActMask) (s : State) : State × Status :=
  if s.mge.lock then (s, .locked)
  else if (channel s pole).state = .dropped ∨ (channel s pole).state = .retrieving then (s, .busy)
  else (setChannel pole { channel s pole with mask := mask } s, .ok)

/-- R33: the lock on one channel: AUTONOMOUS, and a report-only DROPPED pole is acted on at once. -/
def lockChannel (pole : Pole) (s : State) : State :=
  let c := channel s pole
  let locked := { c with mask := ActMask.autonomous }
  if c.state = .dropped ∧ c.mask = .reportOnly then
    let s := hand [.alarmRaise (.poleDrop pole) true] (setChannel pole { locked with lastDropActed := true } s)
    hand [.poleReport pole .retrieving true] (startRetrieval pole s)
  else setChannel pole locked s

/-- R33, R177: the settings lock on both channels. DESIGN CHOICE, log entry 23: P is acted on before N, which orders the two
POLE_DROP raises and pole reports where both poles are DROPPED under REPORT_ONLY. -/
def lockMasks (s : State) : State := lockChannel .n (lockChannel .p s)

end Sys2Proof.Machine
end

