-- ==== Sys2Proof/Machine/Auxiliary.lean ====
section
/-! DEFINITION. The Auxiliary Scheduler (spec/07_auxiliary_load_schedule.md): requests, eligibility, the admission pass, budget
shed, forced exclusion, minimum times, converter status, commands and the commit of the aux table. -/

namespace Sys2Proof.Machine

/-! ### Records, order and notices -/

/-- The active entry of a load (R106). -/
def auxEntry (s : State) (i : LoadIx) : AuxEntry := s.axs.active[i]

/-- The record of a load (R107). -/
def loadRec (s : State) (i : LoadIx) : LoadRec := s.axs.loads[i]

def setLoad (i : LoadIx) (r : LoadRec) (s : State) : State := { s with axs.loads := s.axs.loads.set i r }

/-- The load ID byte: index plus 1 (R106). -/
def loadId (i : LoadIx) : Byte := BitVec.ofNat 8 (i.val + 1)

/-- The nominal current of a load's active entry. -/
def nominal (s : State) (i : LoadIx) : Nat := (auxEntry s i).nominal.toNat

/-- The priority of a load's active entry. -/
def priority (s : State) (i : LoadIx) : Nat := (auxEntry s i).priority.toNat

/-- Insert after every element that is not to come after it. -/
def insertSorted {α : Type} (before : α → α → Bool) (x : α) : List α → List α
  | [] => [x]
  | y :: rest => if before x y then x :: y :: rest else y :: insertSorted before x rest

/-- Sort by a strict order, keeping the given order among equals. -/
def sortBy {α : Type} (before : α → α → Bool) (l : List α) : List α :=
  l.foldl (fun acc x => insertSorted before x acc) []

/-- R108: the waiting list, head first: priority ascending, then the order of joining. -/
def waitingList (s : State) : List LoadIx := sortBy (fun a b => decide (priority s a < priority s b)) s.axs.joinOrder

/-- Whether load `a` is taken before load `b` by a shed or an exclusion: priority descending, then the most recently
admitted first (R116, R118). -/
def shedBefore (s : State) (a b : LoadIx) : Bool :=
  decide (priority s b < priority s a) ||
    (decide (priority s a = priority s b) && decide ((loadRec s b).order.getD 0 < (loadRec s a).order.getD 0))

/-- The ON loads in the order of R116 and R118. -/
def onLoads (s : State) : List LoadIx :=
  sortBy (shedBefore s) ((List.finRange 16).filter fun i => decide ((loadRec s i).state = .on))

/-- The sum of the nominal currents of the loads in state ON (R109). -/
def onSum (s : State) : Nat :=
  ((List.finRange 16).map fun i => if (loadRec s i).state = .on then nominal s i else 0).sum

/-- An AUX_STATE notice, with the reservation after the change (R129). -/
def auxNotice (i : LoadIx) (old new : LoadState) (cause : AuxCause) (s : State) : State :=
  placeNotice ([6, loadId i, loadStateCode old, loadStateCode new, auxCauseCode cause] ++
    unsigned16 s.axs.reservation) s

/-- R126: an aux command to a converter node. -/
def auxCommand (s : State) (node : Byte) (i : LoadIx) (on : Bool) : Frame :=
  builtFrame 3 (node.setWidth 6) (partNode s) [loadId i, if on then 1 else 0]

/-- Place a command for a load, to the converter node of its active entry (R126). -/
def commandLoad (i : LoadIx) (on : Bool) (s : State) : State :=
  placeCommand i (auxCommand s (auxEntry s i).node i on) s

/-- The load joins the waiting list now (R108). -/
def joinWaiting (i : LoadIx) (s : State) : State :=
  { setLoad i { loadRec s i with joined := some s.ms } s with axs.joinOrder := s.axs.joinOrder ++ [i] }

/-- The load leaves the waiting list (R108). -/
def leaveWaiting (i : LoadIx) (s : State) : State :=
  { setLoad i { loadRec s i with joined := none } s with axs.joinOrder := s.axs.joinOrder.filter (fun j => j ≠ i) }

/-- Enter a state, with its notice (R129). -/
def enterState (i : LoadIx) (new : LoadState) (cause : AuxCause) (s : State) : State :=
  auxNotice i (loadRec s i).state new cause (setLoad i { loadRec s i with state := new } s)

/-- Leave ON: the nominal current released, minimum-on stopped, minimum-off started and an OFF command placed, by the
entry given (R109, R112, R117, R121). The new state and the notice follow. -/
def leaveOn (i : LoadIx) (e : AuxEntry) (s : State) : State :=
  let s := placeCommand i (auxCommand s e.node i false) s
  setLoad i { loadRec s i with minOn := none, minOff := startMin e.minOff.toNat }
    { s with axs.reservation := s.axs.reservation - e.nominal.toNat }

/-! ### Eligibility and admission (R113 to R115) -/

/-- Every mode other than WIRE is from battery (R113). -/
def fromBattery (m : SupplyMode) : Bool := decide (m ≠ .wire)

/-- The second and third conditions of R113. -/
def permitted (s : State) (i : LoadIx) : Bool :=
  (!fromBattery s.axs.record.mode || (auxEntry s i).battery) &&
    (decide (s.axs.record.mode ≠ .dewired) || decide (priority s i ≤ keepPriority s.mge.params))

/-- R113: eligible for admission. -/
def eligible (s : State) (i : LoadIx) : Bool := (loadRec s i).minOff.isNone && permitted s i

/-- R114: the load fits under the aux cap with the margin H. -/
def fits (s : State) (i : LoadIx) : Bool :=
  decide (s.axs.reservation + nominal s i + admitMargin s.mge.params ≤ s.axs.record.auxCap)

/-- R115: admit a load. -/
def admitLoad (i : LoadIx) (s : State) : State :=
  let s := leaveWaiting i s
  let n := s.axs.orderCount + 1
  let s := setLoad i { loadRec s i with
      admitted := some s.ms, order := some n, minOn := startMin (auxEntry s i).minOn.toNat }
    { s with axs.orderCount := n, axs.reservation := s.axs.reservation + nominal s i }
  enterState i .on .admitted (commandLoad i true s)

/-- R114: one load of the walk. -/
def tryAdmit (s : State) (i : LoadIx) : State := if eligible s i && fits s i then admitLoad i s else s

/-- R114: an admission pass over the waiting list, head to tail. -/
def admissionPass (s : State) : State := (waitingList s).foldl tryAdmit s

/-! ### Shedding and exclusion (R116 to R118) -/

/-- R117: shed a load. -/
def shedLoad (i : LoadIx) (cause : AuxCause) (s : State) : State :=
  enterState i .shed cause (joinWaiting i (leaveOn i (auxEntry s i) s))

/-- R's being above the aux cap of the record in use. -/
def overCap (s : State) : Bool := decide (s.axs.record.auxCap < s.axs.reservation)

/-- R116, first sweep: a load whose minimum-on timer is stopped is shed while R is above the cap. -/
def sweepFirst (s : State) (i : LoadIx) : State :=
  if overCap s && (loadRec s i).minOn.isNone then shedLoad i .budgetShed s else s

/-- R116, second sweep: the candidates still ON, whose minimum-on timer is running. -/
def sweepSecond (s : State) (i : LoadIx) : State :=
  if overCap s && decide ((loadRec s i).state = .on) then shedLoad i .budgetShed s else s

/-- R116: a budget shed; loads of priority 0 are not candidates. -/
def budgetShed (s : State) : State :=
  let candidates := (onLoads s).filter fun i => decide (0 < priority s i)
  candidates.foldl sweepSecond (candidates.foldl sweepFirst s)

/-- R118: shed an ON load that is no longer permitted. -/
def excludeLoad (s : State) (i : LoadIx) : State := if permitted s i then s else shedLoad i .excluded s

/-- R118: forced exclusion. -/
def forcedExclusion (s : State) : State := (onLoads s).foldl excludeLoad s

/-- Forced exclusion where the mode is from battery, then a budget shed where R is above the cap (R119, R122, R128). -/
def excludeAndShed (s : State) : State :=
  let s := if fromBattery s.axs.record.mode then forcedExclusion s else s
  if overCap s then budgetShed s else s

/-- R109: hand R to CBU where the event has changed it. -/
def handReservation (before : Nat) (s : State) : State :=
  if s.axs.reservation = before then s else hand [.reservationAtCbu s.axs.reservation] s

/-! ### Requests (R110 to R112) -/

/-- The load that an aux request or status names, where its active entry is valid (R110, R123). -/
def validLoad (s : State) (id : Byte) : Option LoadIx :=
  match loadOf id with
  | none => none
  | some i => if (auxEntry s i).valid then some i else none

/-- R110: the load and wanted state of a request that is taken; `none` where the frame is ignored. -/
def judgeAuxRequest (f : Frame) (s : State) : Option (LoadIx × Bool) :=
  match auxPayload f.payload with
  | none => none
  | some (id, wanted) =>
    match validLoad s id with
    | none => none
    | some i => if wanted = 1 then some (i, true) else if wanted = 0 then some (i, false) else none

/-- R111: request ON. -/
def requestOn (i : LoadIx) (s : State) : State :=
  let before := s.axs.reservation
  let s := setLoad i { loadRec s i with requested := true } s
  match (loadRec s i).state with
  | .off => handReservation before (admissionPass (enterState i .waiting .requestOn (joinWaiting i s)))
  | _ => s

/-- R112: request OFF. -/
def requestOff (i : LoadIx) (s : State) : State :=
  let before := s.axs.reservation
  let s := setLoad i { loadRec s i with requested := false } s
  match (loadRec s i).state with
  | .on =>
    handReservation before (admissionPass (enterState i .off .requestOff (leaveOn i (auxEntry s i) s)))
  | .waiting => enterState i .off .requestOff (leaveWaiting i s)
  | .shed => enterState i .off .requestOff (leaveWaiting i s)
  | .fault => enterState i .off .requestOff s
  | .off => s

/-- AUX_REQUEST_ON (R110, R111). A frame that asks for OFF is not this event and changes nothing. -/
def execAuxRequestOn (f : Frame) (s : State) : Host.Outcome State Fault Refusal :=
  let s := taken (.auxRequestOn f) s
  .next <|
    match judgeAuxRequest f s with
    | none => errorU .badField s
    | some (i, true) => requestOn i s
    | some (_, false) => s

/-- AUX_REQUEST_OFF (R110, R112). A frame that asks for ON is not this event and changes nothing. -/
def execAuxRequestOff (f : Frame) (s : State) : Host.Outcome State Fault Refusal :=
  let s := taken (.auxRequestOff f) s
  .next <|
    match judgeAuxRequest f s with
    | none => errorU .badField s
    | some (i, false) => requestOff i s
    | some (_, true) => s

/-! ### Budget records, timers and parameters (R119 to R122) -/

/-- A mode change that widens eligibility (R114, event 3). -/
def widens (old new : SupplyMode) : Bool :=
  (fromBattery old && !fromBattery new) || (decide (old = .dewired) && decide (new ≠ .dewired))

/-- R119: take a published record. -/
def takeRecordAxs (r : BudgetRecord) (s : State) : State :=
  let old := s.axs.record
  let s1 := { s with axs.record := r }
  let s2 := excludeAndShed s1
  let shedAny := decide (s1.axs.joinOrder.length < s2.axs.joinOrder.length)
  let s3 := if shedAny || decide (old.auxCap < r.auxCap) || widens old.mode r.mode then admissionPass s2 else s2
  handReservation s.axs.reservation s3

/-- BUDGET_RECORD_AT_AXS (R119). -/
def execBudgetRecordAtAxs (r : BudgetRecord) (s : State) : Host.Outcome State Fault Refusal :=
  .next (takeRecordAxs r (taken (.budgetRecordAtAxs r) s))

/-- MIN_ON_EXPIRY (R120): the timer stops and nothing else follows. -/
def execMinOnExpiry (i : LoadIx) (s : State) : Host.Outcome State Fault Refusal :=
  .next (setLoad i { loadRec s i with minOn := none } s)

/-- MIN_OFF_EXPIRY (R121). A stopped timer does not expire. -/
def execMinOffExpiry (i : LoadIx) (s : State) : Host.Outcome State Fault Refusal :=
  .next <|
    match (loadRec s i).minOff with
    | none => s
    | some _ =>
      handReservation s.axs.reservation (admissionPass (setLoad i { loadRec s i with minOff := none } s))

/-- Exclusion, shed, pass and hand-over with the parameters as they stand (R122). -/
def reviewLoads (s : State) : State := handReservation s.axs.reservation (admissionPass (excludeAndShed s))

/-- AXS_PARAMETER_COMMIT (R122). -/
def execAxsParameterCommit (s : State) : Host.Outcome State Fault Refusal :=
  .next (reviewLoads (taken .axsParameterCommit s))

/-! ### Converter status (R123 to R125) -/

/-- R124: act on the fault flag and the load's state; the admission pass follows at the end of the event (R114). -/
def judgeFault (i : LoadIx) (faulty : Bool) (s : State) : State :=
  match faulty, (loadRec s i).state with
  | true, .on => enterState i .fault .converterFault (leaveOn i (auxEntry s i) s)
  | true, .waiting => enterState i .fault .converterFault (leaveWaiting i s)
  | true, .shed => enterState i .fault .converterFault (leaveWaiting i s)
  | false, .fault => enterState i .waiting .faultCleared (joinWaiting i s)
  | _, _ => s

/-- R124, R114: whether an accepted status asks for an admission pass: a fault on an ON load, or the end of a fault. -/
def faultPasses (faulty : Bool) (old : LoadState) : Bool :=
  (faulty && decide (old = .on)) || (!faulty && decide (old = .fault))

/-- R125: a running converter whose load is not ON is told OFF again. -/
def resendOff (i : LoadIx) (isRunning : Bool) (s : State) : State :=
  if isRunning && decide ((loadRec s i).state ≠ .on) then commandLoad i false s else s

/-- R123 to R125: an accepted status. The admission pass runs at the end of the event, after R125 (R114; log entry 12). -/
def takeStatus (i : LoadIx) (status : Byte) (s : State) : State :=
  let s1 := setLoad i { loadRec s i with running := some (status.getLsbD 0) } s
  let s2 := resendOff i (status.getLsbD 0) (judgeFault i (status.getLsbD 1) s1)
  let s3 := if faultPasses (status.getLsbD 1) (loadRec s i).state then admissionPass s2 else s2
  handReservation s.axs.reservation s3

/-- AUX_STATUS (R123). -/
def execAuxStatus (f : Frame) (s : State) : Host.Outcome State Fault Refusal :=
  let s := taken (.auxStatus f) s
  .next <|
    match auxPayload f.payload with
    | none => errorD .badField s
    | some (id, status) =>
      match validLoad s id with
      | none => errorD .badField s
      | some i => if f.src = (auxEntry s i).node.setWidth 6 then takeStatus i status s else s

/-! ### The aux table (R127, R128) and RESTART (R130) -/

/-- R127: whether a valid entry fails at commit. -/
def auxEntryFails (part : Node) (e : AuxEntry) : Bool :=
  e.valid && (decide (e.node = 0) || decide (e.node.setWidth 6 = part) || decide (e.nominal = 0))

/-- The first failing index of a table's walk. -/
def firstFailing {α : Type} (fails : α → Bool) (l : List α) : Option Nat := l.findIdx? fails

/-- R128, step 2, for one load: by the old entry, where the new one is invalid. -/
def retireLoad (old : AuxTable) (s : State) (i : LoadIx) : State :=
  if (auxEntry s i).valid then s
  else
    let s := setLoad i { loadRec s i with requested := false } s
    match (loadRec s i).state with
    | .on => enterState i .off .tableCommit (leaveOn i old[i] s)
    | .waiting => enterState i .off .tableCommit (leaveWaiting i s)
    | .shed => enterState i .off .tableCommit (leaveWaiting i s)
    | .fault => enterState i .off .tableCommit s
    | .off => s

/-- R128: the commit of a validated aux table. DESIGN CHOICE, log entry 24: step 2 takes the loads in load ID order, which
fixes the order of their notices, the R that each notice carries and the order of their OFF commands in lane 2. -/
def swapAux (t : AuxTable) (s : State) : State :=
  let old := s.axs.active
  let s1 := (List.finRange 16).foldl (retireLoad old) { s with axs.active := t }
  let s2 := { s1 with axs.reservation := onSum s1 }
  handReservation s.axs.reservation (admissionPass (excludeAndShed s2))

/-- A load record at RESTART: a load that was ON starts its minimum-off timer afresh (R130). -/
def restartLoad (e : AuxEntry) (r : LoadRec) : LoadRec :=
  { LoadRec.reset with minOff := if r.state = .on then startMin e.minOff.toNat else r.minOff }

/-- R130: AXS's own values at RESTART, before its OFF commands. -/
def restartAxs (s : State) : State :=
  { s with axs := { s.axs with shadow := none, loads := Vector.zipWith restartLoad s.axs.active s.axs.loads,
                               joinOrder := [], reservation := 0, record := resetRecord s.mge.params,
                               orderCount := 0 } }

/-- R130: an OFF command for every load whose entry is valid, in load ID order. -/
def commandAllOff (s : State) : State :=
  (List.finRange 16).foldl (fun t i => if (auxEntry t i).valid then commandLoad i false t else t) s

end Sys2Proof.Machine
end

