-- ==== Sys2Proof/Machine/Requests.lean ====
section
/-! DEFINITION. The request queue and the execution of a request (R162 to R165): segments, taking a complete request,
building and placing the response. -/

namespace Sys2Proof.Machine

/-! ### Assembling (R162, R163) -/

/-- Whether an entry is assembling a request of a source. -/
def assemblingOf (source : Node) (e : ReqEntry) : Bool :=
  match e.assembly with
  | .assembling _ => decide (e.source = source)
  | .complete _ => false

/-- An entry's payload after a further segment; past 128 bytes it is marked over-length instead (R163). -/
def appendSegment (payload : List Byte) (e : ReqEntry) : ReqEntry :=
  if e.overLength then e
  else if Config.requestBytes < e.payload.length + payload.length then { e with overLength := true }
  else { e with payload := e.payload ++ payload }

/-- An entry's assembly after a segment: T_seg started or restarted, or COMPLETE with the next order (R162). -/
def assemblyAfter (continues : Bool) (order : Nat) : Assembly :=
  if continues then .assembling Config.tSeg else .complete order

/-- Change the entry that assembles a source's request; there is at most one (R162). -/
def updateAssembling (source : Node) (g : ReqEntry → ReqEntry) : List ReqEntry → List ReqEntry
  | [] => []
  | e :: rest => if assemblingOf source e then g e :: rest else e :: updateAssembling source g rest

/-- R162: take a delivered class 5 frame. -/
def takeSegment (f : Frame) (s : State) : State :=
  let continues := frameContinues f
  let assembly := assemblyAfter continues s.mge.orderCount
  let count := if continues then s.mge.orderCount else s.mge.orderCount + 1
  if s.mge.queue.any (assemblingOf f.src) then
    let grow : ReqEntry → ReqEntry := fun e => { appendSegment f.payload e with assembly := assembly }
    { s with mge.queue := updateAssembling f.src grow s.mge.queue, mge.orderCount := count }
  else if s.mge.queue.length < Config.requestEntries then
    let e : ReqEntry := { source := f.src, payload := f.payload, overLength := false, assembly := assembly }
    { s with mge.queue := s.mge.queue ++ [e], mge.orderCount := count }
  else errorU .laneFull s

/-- MGMT_SEGMENT (R162, R163). -/
def execMgmtSegment (f : Frame) (s : State) : Host.Outcome State Fault Refusal :=
  .next (takeSegment f (taken (.mgmtSegment f) s))

/-- T_SEG_EXPIRY (R163): a source that assembles no request has no T_seg running. -/
def execTSegExpiry (source : Node) (s : State) : Host.Outcome State Fault Refusal :=
  .next <|
    if s.mge.queue.any (assemblingOf source) then
      errorU .length { s with mge.queue := s.mge.queue.filter fun e => !assemblingOf source e }
    else s

/-! ### Taking a request (R164) -/

/-- The completion order of a COMPLETE entry. -/
def completeOrder (e : ReqEntry) : Option Nat :=
  match e.assembly with
  | .assembling _ => none
  | .complete n => some n

/-- The COMPLETE entry with the earliest completion order. -/
def earliestComplete : List ReqEntry → Option ReqEntry
  | [] => none
  | e :: rest =>
    match completeOrder e, earliestComplete rest with
    | none, r => r
    | some _, none => some e
    | some n, some r => if n ≤ (completeOrder r).getD n then some e else some r

/-- MGE is free and a response entry is unoccupied (R164). -/
def mgeReady (s : State) : Bool :=
  s.mge.toPlace.isEmpty && !s.mge.awaitRestart && decide (responseCount s < Config.responseEntries)

/-- R164: take a request for execution. `none` where it cannot be taken now: MGE is not free, no response entry is
unoccupied, or another COMPLETE entry comes first. Where no COMPLETE entry waits, the command is a request that
completes as it is taken (DESIGN CHOICE). -/
def takeRequest (payload : List Byte) (q : Request) (s : State) : Option State :=
  if mgeReady s then
    match earliestComplete s.mge.queue with
    | none => some s
    | some e =>
      if e.source = q.source ∧ e.payload = payload ∧ e.overLength = q.overLength then
        some { s with mge.queue := s.mge.queue.erase e }
      else none
  else none

/-! ### Responding (R164, R187) -/

/-- What a request is answered: a status and the response fields. -/
structure Reply where
  status : Status
  fields : List Byte
deriving DecidableEq, Repr

/-- An answer of a status alone. -/
def plain (status : Status) : Reply := { status := status, fields := [] }

/-- The continuation flag on every segment except the last (R164). -/
def markSegments : List Frame → List Frame
  | [] => []
  | [f] => [f]
  | f :: g :: rest => withContinuation f :: markSegments (g :: rest)

/-- The segments of a response, at most 32 bytes each (R164). -/
def segmentsOf (s : State) (dst : Node) (payload : List Byte) : List Frame :=
  markSegments ((chunks Config.payloadBytes ((payload.length + 31) / 32) payload).map
    (builtFrame 6 dst (partNode s)))

/-- Build a response and place its segments (R164, R187). -/
def respond (dst : Node) (echo : Byte) (reply : Reply) (s : State) : State :=
  placeSegments
    { s with mge.toPlace := segmentsOf s dst (echo :: statusCode reply.status :: reply.fields) }

/-- Execute a request with a known code: R165, case 1, then the request's own body, then the response. A request that
cannot be taken now waits, and nothing changes. -/
def runRequest (code : ReqCode) (q : Request) (body : State → State × Reply) (s : State) : State :=
  match takeRequest (reqCodeNum code :: q.args) q s with
  | none => s
  | some s1 =>
    let r := if q.overLength then (s1, plain .badField) else body s1
    respond q.source (reqCodeNum code) r.2 r.1

end Sys2Proof.Machine
end

