-- ==== Sys2Proof/Machine/SectionMap.lean ====
section
/-! DEFINITION. The Section Tracker (spec/01_overhead_section_map.md): lookup, publishing the view, the position timer,
validation of the section table, and immediate and deferred swaps. -/

namespace Sys2Proof.Machine

/-! ### Lookup (R2, R5) -/

/-- Whether a valid entry of a route's own tag covers a chainage: start ≤ c < end (R1). -/
def entryCovers (e : SectionEntry) (route : Byte) (c : Half) : Bool :=
  e.valid && decide (e.route = route) && decide (e.start.toNat ≤ c.toNat) && decide (c.toNat < e.stop.toNat)

/-- One stage of the lookup: the valid entry of this tag that covers the chainage. -/
def lookupStage (t : SectionTable) (route : Byte) (c : Half) : Option (Fin 128) :=
  (List.finRange 128).find? fun i => entryCovers t[i] route c

/-- R5: the route's own entries, then the all-routes entries. -/
def lookupSection (t : SectionTable) (route : Byte) (c : Half) : Option (Fin 128) :=
  (lookupStage t route c).or (lookupStage t 255 c)

/-- The view taken from a matched entry (R2). -/
def entryView (e : SectionEntry) : View :=
  { kind := (sectionKindOf e.kind).getD .live, cap := e.cap.toNat, profile := e.profile.toNat, id := e.id.toNat,
    known := true }

/-- The view of a lookup's result (R2). -/
def viewOfMatch (params : ParamTable) (t : SectionTable) : Option (Fin 128) → View
  | none => defaultView params true
  | some i => entryView t[i]

/-- The matched entry of the stored position in the active table; none while the position is unknown. -/
def matchStored (s : State) : Option (Fin 128) :=
  match s.sct.position with
  | none => none
  | some (route, c) => lookupSection s.sct.active route c

/-- The view computed from the stored position and the active table (R2). -/
def computeView (s : State) : View :=
  match s.sct.position with
  | none => defaultView s.mge.params false
  | some _ => viewOfMatch s.mge.params s.sct.active (matchStored s)

/-! ### Publishing (R6) -/

/-- The 11 bytes of the view-and-position block (R186). -/
def viewBlock (v : View) (position : Option (Byte × Half)) (matched : Option (Fin 128)) : List Byte :=
  [sectionKindCode v.kind] ++ unsigned16 v.cap ++ [BitVec.ofNat 8 v.profile] ++ unsigned16 v.id ++
  [bitsByte [v.known, position.isSome], (position.map Prod.fst).getD 255] ++ be16 ((position.map Prod.snd).getD 0) ++
  [(matched.map (fun i => BitVec.ofNat 8 i.val)).getD 255]

/-- R6: publish a view when it differs from the one last published. -/
def publishView (v : View) (s : State) : State :=
  if v = s.sct.view then s
  else
    let s := hand [.sectionViewAtSmc v, .sectionViewAtCbu v, .sectionViewAtPwu v] { s with sct.view := v }
    placeNotice (1 :: viewBlock v s.sct.position s.sct.matched) s

/-- Record the matched entry of the stored position, and publish the view it gives. -/
def lookupAndPublish (s : State) : State :=
  let s := { s with sct.matched := matchStored s }
  publishView (computeView s) s

/-! ### Deferred swap (R15, R16) -/

/-- R16: end the deferral when the view computed from the active copy is not a gap: swap and place the notice. -/
def endDeferral (s : State) : State :=
  match s.sct.pendingTbl with
  | none => s
  | some t =>
    if isGap (computeView s).kind then s
    else placeNotice [2, tableCode .sections] { s with sct.active := t, sct.pendingTbl := none }

/-! ### Position frames and T_pos (R3, R4, R9) -/

/-- Whether POSITION_LOST is raised: its record is raised, or SCT's raise is handed over and not taken yet
(DEDUCED). -/
def positionLostRaised (s : State) : Bool :=
  s.alm.any (fun r => decide (r.key = .positionLost) && decide (r.state ≠ .clearedUnacked)) ||
    decide (Instr.alarmRaise .positionLost false ∈ s.handed)

/-- R4: an accepted position. -/
def acceptPosition (route : Byte) (c : Half) (s : State) : State :=
  let s1 := { s with sct.position := some (route, c), sct.tPos := some (tPos s.mge.params) }
  let s2 := if positionLostRaised s1 then hand [.alarmClear .positionLost] s1 else s1
  lookupAndPublish (endDeferral s2)

/-- POSITION_FRAME (R3, R4). -/
def execPositionFrame (f : Frame) (s : State) : Host.Outcome State Fault Refusal :=
  let s := taken (.positionFrame f) s
  .next <|
    match positionPayload f.payload with
    | none => errorU .badField s
    | some (route, c) => if route = 255 then errorU .badField s else acceptPosition route c s

/-- R9: the position is lost. -/
def losePosition (s : State) : State :=
  let s1 := { s with sct.position := none, sct.matched := none, sct.tPos := none }
  hand [.alarmRaise .positionLost false] (lookupAndPublish (endDeferral s1))

/-- T_POS_EXPIRY (R9). A stopped T_pos does not expire. -/
def execTPosExpiry (s : State) : Host.Outcome State Fault Refusal :=
  .next <|
    match s.sct.tPos with
    | none => s
    | some _ => losePosition s

/-- SCT_PARAMETER_COMMIT (R8): a default-section view takes the new default section cap. -/
def execSctParameterCommit (s : State) : Host.Outcome State Fault Refusal :=
  let s := taken .sctParameterCommit s
  .next <|
    if s.sct.view.id = 0 then publishView { s.sct.view with cap := defaultCap s.mge.params } s else s

/-! ### Validation and commit (R13, R14) -/

/-- Two spans overlap when each starts before the other ends (R1). -/
def spansOverlap (a b : SectionEntry) : Bool :=
  decide (a.start.toNat < b.stop.toNat) && decide (b.start.toNat < a.stop.toNat)

/-- R13, cases 5 to 7: a conflict with a valid entry at a lower index. Entries of equal tags, 255 included, conflict
when their spans overlap. -/
def entriesConflict (earlier e : SectionEntry) : Bool :=
  earlier.valid && (decide (earlier.id = e.id) || (decide (earlier.route = e.route) && spansOverlap earlier e))

/-- R13: whether the valid entry `e` fails, given the entries at lower indices. -/
def sectionEntryFails (lower : List SectionEntry) (e : SectionEntry) : Bool :=
  e.valid &&
    (decide (e.stop.toNat ≤ e.start.toNat) || (sectionKindOf e.kind).isNone || decide (3 < e.profile.toNat) ||
      decide (e.id = 0) || lower.any (fun x => entriesConflict x e))

/-- The walk of R13 from an index: the first failing index. -/
def walkSections (lower : List SectionEntry) (index : Nat) : List SectionEntry → Option Nat
  | [] => none
  | e :: rest => if sectionEntryFails lower e then some index else walkSections (lower ++ [e]) (index + 1) rest

/-- R13: the first failing index of a section table. -/
def firstBadSection (t : SectionTable) : Option Nat := walkSections [] 0 t.toList

/-- R14: the swap of a validated section table, or its deferral while the view is a gap. -/
def swapSection (t : SectionTable) (s : State) : State × Status :=
  if isGap s.sct.view.kind then ({ s with sct.pendingTbl := some t }, .deferred)
  else
    let s := { s with sct.active := t }
    (match s.sct.position with
      | none => s
      | some _ => lookupAndPublish s, .ok)

/-- R17: SCT at RESTART. -/
def restartSct (s : State) : State :=
  { s with sct := { s.sct with shadow := none, pendingTbl := none, position := none, matched := none,
                               view := defaultView s.mge.params false, tPos := some (tPos s.mge.params) } }

end Sys2Proof.Machine
end

