-- ==== Sys2Proof/Machine/Alarm.lean ====
section
/-! DEFINITION. The Alarm List (spec/08_alarm_list_and_acknowledgement.md): records, raises, clears, acknowledgements and
ALARM frames. Commands ALARM_RAISE and ALARM_CLEAR; ACK_ALARM is in Management.lean. -/

namespace Sys2Proof.Machine

/-- The record of a key, if the list holds one (R132). -/
def findAlarm (key : AlarmKey) (s : State) : Option AlarmRec := s.alm.find? (fun r => decide (r.key = key))

/-- Whether the list holds an open acted drop record (R57, R141). -/
def openActedDrop (alm : List AlarmRec) : Bool :=
  alm.any fun r => r.key.isPoleDrop && decide (r.acted = some true) && decide (r.state ≠ .raisedAcked)

/-- The 18 bytes of a record (R185). -/
def alarmRecordBytes (r : AlarmRec) : List Byte :=
  [alarmKeyCode r.key, alarmStateCode r.state,
    bitsByte [r.acted.isSome, r.acted == some true, r.sectionId.isSome, r.chainage.isSome]] ++
  be32 r.first ++ be32 r.last ++ [BitVec.ofNat 8 r.repeats] ++ unsigned16 (r.sectionId.getD 0) ++
  be16 (r.chainage.getD 0) ++ unsigned16 r.volts

/-- Place the ALARM frame of an event, with the record's fields as given (R142, R143). -/
def placeAlarmFrame (event : AlarmEvent) (r : AlarmRec) (s : State) : State :=
  { s with upi.groupA :=
      putAlarm r.key (builtFrame 8 0 (partNode s) (alarmEventCode event :: alarmRecordBytes r)) s.upi.groupA }

/-- A new record, its first-raise fields from the state as it stands (R135, R136). A POSITION_LOST record has no section ID
and no chainage, since its raise follows the loss of the position (R9, R135). -/
def newAlarm (key : AlarmKey) (acted : Bool) (s : State) : AlarmRec :=
  { key := key, state := .raisedUnacked, acted := if key.isPoleDrop then some acted else none,
    first := s.ms, last := s.ms, repeats := 1,
    sectionId := if s.sct.view.known ∧ key ≠ .positionLost then some s.sct.view.id else none,
    chainage := if s.sct.view.known ∧ key ≠ .positionLost then s.sct.position.map Prod.snd else none,
    volts := lineVolts s }

/-- A record after a further raise (R136, R137). -/
def repeatAlarm (acted : Bool) (now : Millis) (r : AlarmRec) : AlarmRec :=
  { r with state := if r.state = .clearedUnacked then .raisedUnacked else r.state,
           repeats := min Config.repeatBound (r.repeats + 1), last := now,
           acted := r.acted.map (fun a => a || acted) }

/-- Put a changed record in the place of its key's record (R134). -/
def setAlarm (r : AlarmRec) (alm : List AlarmRec) : List AlarmRec := alm.map fun x => if x.key = r.key then r else x

/-- Take a key's record out; the records after it close up (R134). -/
def dropAlarm (key : AlarmKey) (alm : List AlarmRec) : List AlarmRec := alm.filter fun x => decide (x.key ≠ key)

/-- R136: a raise request. -/
def raiseAlarm (key : AlarmKey) (acted : Bool) (s : State) : State :=
  match findAlarm key s with
  | none =>
    let r := newAlarm key acted s
    placeAlarmFrame .raised r { s with alm := s.alm ++ [r] }
  | some r =>
    let r' := repeatAlarm acted s.ms r
    placeAlarmFrame (if r.state = .clearedUnacked then .raised else .repeated) r' { s with alm := setAlarm r' s.alm }

/-- Report an acknowledgement or removal of a POLE_DROP record to SMC (R141). -/
def reportDropAck (key : AlarmKey) (s : State) : State :=
  match key with
  | .poleDrop pole => hand [.poleDropAckReport pole] s
  | _ => s

/-- R141: removal: the REMOVED frame, the record out of the list, the report. -/
def removeAlarm (r : AlarmRec) (s : State) : State :=
  let s := placeAlarmFrame .removed r s
  reportDropAck r.key { s with alm := dropAlarm r.key s.alm }

/-- R138: a clear request. -/
def clearAlarm (key : AlarmKey) (s : State) : State :=
  match findAlarm key s with
  | none => s
  | some r =>
    match r.state with
    | .raisedUnacked =>
      let r' := { r with state := .clearedUnacked }
      placeAlarmFrame .cleared r' { s with alm := setAlarm r' s.alm }
    | .raisedAcked => removeAlarm r s
    | .clearedUnacked => s

/-- R139: acknowledge one record. -/
def ackRecord (r : AlarmRec) (s : State) : State :=
  match r.state with
  | .raisedUnacked =>
    let r' := { r with state := .raisedAcked }
    reportDropAck r.key (placeAlarmFrame .acknowledged r' { s with alm := setAlarm r' s.alm })
  | .clearedUnacked => removeAlarm r s
  | .raisedAcked => s

/-- Whether an acknowledgement changes a record (R139). -/
def ackCounts (r : AlarmRec) : Bool := decide (r.state ≠ .raisedAcked)

/-- R140: acknowledge every record, head to tail. -/
def ackAll (s : State) : State := s.alm.foldl (fun t r => ackRecord r t) s

/-- ALARM_RAISE (R136). -/
def execAlarmRaise (key : AlarmKey) (acted : Bool) (s : State) : Host.Outcome State Fault Refusal :=
  .next (raiseAlarm key acted (taken (.alarmRaise key acted) s))

/-- ALARM_CLEAR (R138). -/
def execAlarmClear (key : AlarmKey) (s : State) : Host.Outcome State Fault Refusal :=
  .next (clearAlarm key (taken (.alarmClear key) s))

end Sys2Proof.Machine
end

