-- ==== Sys2Proof/Machine/Supply.lean ====
section
/-! DEFINITION. The Supply Mode Controller (spec/04_supply_mode.md): the evaluation, the NO_LINE timer, publishing a mode and
the wireless exposure. -/

namespace Sys2Proof.Machine

/-- A pole is up: ON_WIRE, SUSPECT, or DROPPED under REPORT_ONLY (R57). -/
def poleUp (c : Channel) : Bool :=
  match c.state with
  | .onWire => true
  | .suspect => true
  | .dropped => decide (c.mask = .reportOnly)
  | _ => false

/-- DROPPED or RETRIEVING with the last drop acted (R58, test 2). -/
def poleDropActed (c : Channel) : Bool :=
  (decide (c.state = .dropped) || decide (c.state = .retrieving)) && c.lastDropActed

/-- UNKNOWN or LOST (R58, test 3). -/
def poleUnresolved (c : Channel) : Bool := decide (c.state = .unknown) || decide (c.state = .lost)

/-- The wire voltage of a channel's last sample; both up poles have one (R57), and 0 stands for an absent sample,
which no evaluation that reads the voltage meets (DEDUCED). -/
def sampleVolts (c : Channel) : Nat :=
  match c.last with
  | none => 0
  | some x => x.volts.toNat

/-- V_line as SMC reads it (R57). -/
def sampleLine (s : State) : Nat := min (sampleVolts s.pwu.chP) (sampleVolts s.pwu.chN)

/-- Both poles STOWED and no open acted drop record (R59). -/
def dewiredReleased (s : State) : Bool :=
  decide (s.pwu.chP.state = .stowed) && decide (s.pwu.chN.state = .stowed) && !openActedDrop s.alm

/-- The LIVE, FROG or WIRELESS case of test 4 (R61, R63). -/
def lineMode (s : State) : SupplyMode :=
  if s.smc.mode = .noLine ∧ sampleLine s < vRestore s.mge.params then .noLine else .wire

/-- Test 4 (R60, R61, R63). -/
def bothUpMode (s : State) : SupplyMode :=
  match s.sct.view.kind with
  | .insulator => .gap .insulator
  | .dead => .gap .dead
  | _ => lineMode s

/-- The result of an evaluation: the tests of R58 in order, R59 under the latch. -/
def evalMode (s : State) : SupplyMode :=
  if s.smc.latch then (if dewiredReleased s then .battery else .dewired)
  else if poleDropActed s.pwu.chP || poleDropActed s.pwu.chN then .dewired
  else if poleUnresolved s.pwu.chP || poleUnresolved s.pwu.chN then .unresolved
  else if poleUp s.pwu.chP && poleUp s.pwu.chN then bothUpMode s
  else .battery

/-- The NO_LINE timer after an evaluation with this result (R58, R61, R63). -/
def evalNoLine (result : SupplyMode) (s : State) : Timer :=
  match result with
  | .wire =>
    if s.smc.mode = .noLine then none
    else if sampleLine s < vLost s.mge.params then
      match s.smc.noLine with
      | none => some (tLost s.mge.params)
      | some n => some n
    else none
  | .noLine => s.smc.noLine
  | _ => none

/-- The alarm requests of a change between two modes (R66). -/
def noLineAlarms (old new : SupplyMode) : List Instr :=
  (if new = .noLine ∧ old ≠ .noLine then [.alarmRaise .noLine false] else []) ++
  (if old = .noLine ∧ new ≠ .noLine then [.alarmClear .noLine] else [])

/-- The cut that a change into a mode asks for (R65). -/
def modeCuts (new : SupplyMode) : List Instr :=
  match new with
  | .dewired => [.cutRequest .dewired]
  | .unresolved => [.cutRequest .unresolved]
  | _ => []

/-- R64: publish a mode or subkind that differs from the one held. -/
def publishMode (new : SupplyMode) (s : State) : State :=
  let old := s.smc.mode
  if new = old then s
  else
    let s := { s with smc.mode := new }
    let s := hand (noLineAlarms old new ++ modeCuts new ++ [.modeAtCbu new]) s
    placeNotice [4, modeCode new, subkindCode new, modeCode old, subkindCode old] s

/-- Exposed: a WIRELESS view with a channel not STOWED (R67). -/
def exposedNow (s : State) : Bool :=
  decide (s.sct.view.kind = .wireless) &&
    (decide (s.pwu.chP.state ≠ .stowed) || decide (s.pwu.chN.state ≠ .stowed))

/-- R67: judge the wireless exposure after an evaluation. -/
def judgeExposure (s : State) : State :=
  if exposedNow s && !s.smc.exposed then
    hand [.alarmRaise .polesUpInWireless false] { s with smc.exposed := true }
  else if !exposedNow s && s.smc.exposed then
    hand [.alarmClear .polesUpInWireless] { s with smc.exposed := false }
  else s

/-- One evaluation of the supply mode (R57, R58): the latch is set with a result DEWIRED and clear with any other, the
NO_LINE timer is treated, the result is published by R64, and R67 follows. -/
def evaluate (s : State) : State :=
  let result := evalMode s
  judgeExposure <| publishMode result
    { s with smc.latch := decide (result = .dewired), smc.noLine := evalNoLine result s }

/-- POLE_REPORT (R57): the evaluation reads the channels as they stand. -/
def execPoleReport (pole : Pole) (state : PoleState) (changed : Bool) (s : State) :
    Host.Outcome State Fault Refusal :=
  .next (evaluate (taken (.poleReport pole state changed) s))

/-- SECTION_VIEW_AT_SMC (R57, R58): the evaluation reads the view last published. -/
def execSectionViewAtSmc (v : View) (s : State) : Host.Outcome State Fault Refusal :=
  .next (evaluate (taken (.sectionViewAtSmc v) s))

/-- POLE_DROP_ACK_REPORT (R57, R59). -/
def execPoleDropAckReport (pole : Pole) (s : State) : Host.Outcome State Fault Refusal :=
  .next (evaluate (taken (.poleDropAckReport pole) s))

/-- NO_LINE_TIMER_EXPIRY (R62): the mode becomes NO_LINE without an evaluation. A stopped timer does not expire. -/
def execNoLineTimerExpiry (s : State) : Host.Outcome State Fault Refusal :=
  .next <|
    match s.smc.noLine with
    | none => s
    | some _ => publishMode .noLine { s with smc.noLine := none }

end Sys2Proof.Machine
end

