-- ==== Sys2Proof/Machine/Readout.lean ====
section
/-! DEFINITION. The reading requests (R166) and the error readout (R168), with the layouts of R187. -/

namespace Sys2Proof.Machine

/-- A node address as a byte. -/
def nodeByte (n : Node) : Byte := n.setWidth 8

/-- Fields of READ_IDENT (R166, R187). -/
def identFields (s : State) : List Byte :=
  be16 Config.vendorCode ++ be16 Config.partCode ++ [Config.revision, nodeByte (partNode s)] ++
  Config.capacities.map (BitVec.ofNat 8)

/-- The budget record in READ_STATE: mode, subkind, A_s, aux cap, M, G, R (R187). -/
def recordBytes (r : BudgetRecord) : List Byte :=
  [modeCode r.mode, subkindCode r.mode] ++ unsigned16 r.supply ++ unsigned16 r.auxCap ++ unsigned16 r.motoring ++
  unsigned16 r.regen ++ unsigned16 r.reservation

/-- The values of the last sample, zeros where it is absent (R183, R187). -/
def lastSampleBytes (x : Option LastSample) : List Byte :=
  match x with
  | none => [0, 0, 0, 0, 0, 0]
  | some x => [x.seq] ++ unsigned16 x.angle ++ [sampleStatus x] ++ be16 (x.volts.setWidth 16)

/-- The 13 bytes of a channel (R187). -/
def channelBytes (c : Channel) : List Byte :=
  [poleStateCode c.state, actMaskCode c.mask,
    bitsByte [c.prevAngle.isSome, c.last.isSome, c.lastDropActed, running c.tSmp, running c.tRaise, running c.tRetr]] ++
  unsigned16 (c.prevAngle.getD 0) ++ [BitVec.ofNat 8 c.suspect, BitVec.ofNat 8 c.good] ++ lastSampleBytes c.last

/-- The open table and its owner: 255 and 0 where no table is open (R183). -/
def openTableBytes (o : Option OpenTable) : List Byte :=
  match o with
  | none => [255, 0]
  | some o => [tableCode o.table, nodeByte o.owner]

/-- Fields of READ_STATE (R166, R187). -/
def stateFields (s : State) : List Byte :=
  [modeCode s.smc.mode, subkindCode s.smc.mode] ++ recordBytes s.cbu.record ++ channelBytes s.pwu.chP ++
  channelBytes s.pwu.chN ++ viewBlock s.sct.view s.sct.position s.sct.matched ++
  [bitsByte [s.sct.pendingTbl.isSome, s.mge.lock]] ++ unsigned16 s.axs.reservation ++ signed16 s.tau.admitted ++
  openTableBytes s.mge.openTable

/-- A load block of 10 bytes (R187). -/
def loadBlock (r : LoadRec) : List Byte :=
  [loadStateCode r.state,
    bitsByte [r.requested, r.running.isSome, r.running == some true, running r.minOn, running r.minOff,
      r.admitted.isSome, r.joined.isSome]] ++
  be32 (r.admitted.getD 0) ++ be32 (r.joined.getD 0)

/-- Fields of READ_LOADS (R166, R187). -/
def loadsFields (s : State) : List Byte :=
  (s.axs.loads.toList.flatMap loadBlock) ++ [BitVec.ofNat 8 (waitingList s).length] ++ (waitingList s).map loadId

/-- Fields of READ_ALARMS (R134, R187). -/
def alarmsFields (s : State) : List Byte :=
  BitVec.ofNat 8 s.alm.length :: s.alm.flatMap alarmRecordBytes

/-- A request without fields answered OK with what it reads, or BAD_FIELD on any field (R165, R166). -/
def readBody (args : List Byte) (fields : State → List Byte) (s : State) : State × Reply :=
  if args = [] then (s, { status := .ok, fields := fields s }) else (s, plain .badField)

/-- READ_IDENT (R166). -/
def execReadIdent (q : Request) (s : State) : Host.Outcome State Fault Refusal :=
  .next (runRequest .readIdent q (readBody q.args identFields) s)

/-- READ_STATE (R166). -/
def execReadState (q : Request) (s : State) : Host.Outcome State Fault Refusal :=
  .next (runRequest .readState q (readBody q.args stateFields) s)

/-- READ_LOADS (R166). -/
def execReadLoads (q : Request) (s : State) : Host.Outcome State Fault Refusal :=
  .next (runRequest .readLoads q (readBody q.args loadsFields) s)

/-- READ_ALARMS (R166). -/
def execReadAlarms (q : Request) (s : State) : Host.Outcome State Fault Refusal :=
  .next (runRequest .readAlarms q (readBody q.args alarmsFields) s)

/-- One error record as reported: last error code and flags (R187). -/
def errBytes (e : ErrRec) : List Byte := [lastErrorCode e.last, e.flags.setWidth 8]

/-- Fields of READ_ERRORS: Port U, Port D, Port S (R168, R187). -/
def errorsFields (s : State) : List Byte := errBytes s.upi.err ++ errBytes s.dec.err ++ errBytes s.pli.err

/-- Clear the flags of the 24-bit mask: bits 5-0 Port U, 11-6 Port D, 17-12 Port S (R168, R187). -/
def clearErrors (mask : BitVec 24) (s : State) : State :=
  { s with upi.err := clearFlags s.upi.err (mask.extractLsb' 0 6),
           dec.err := clearFlags s.dec.err (mask.extractLsb' 6 6),
           pli.err := clearFlags s.pli.err (mask.extractLsb' 12 6) }

/-- R168: report, then clear. -/
def readErrorsBody (args : List Byte) (s : State) : State × Reply :=
  match args with
  | [m2, m1, m0] => (clearErrors (m2 ++ m1 ++ m0) s, { status := .ok, fields := errorsFields s })
  | _ => (s, plain .badField)

/-- READ_ERRORS (R168). -/
def execReadErrors (q : Request) (s : State) : Host.Outcome State Fault Refusal :=
  .next (runRequest .readErrors q (readErrorsBody q.args) s)

end Sys2Proof.Machine
end

