-- ==== Sys2Proof/Machine/Management.lean ====
section
/-! DEFINITION. The acting requests and table loading (spec/10_in_band_management_and_table_loading.md): acknowledgement, poles,
act masks, the five tables, the settings lock, RESTART's response and unknown requests. -/

namespace Sys2Proof.Machine

/-! ### Requests handed to the owners (R167) -/

/-- R139 and R140: ACK_ALARM of one key or ALL. -/
def ackBody (args : List Byte) (s : State) : State × Reply :=
  match args with
  | [c] =>
    if c = 255 then
      (ackAll s, { status := .ok, fields := [BitVec.ofNat 8 (s.alm.countP ackCounts)] })
    else
      match (alarmKeyOf c).bind (fun k => findAlarm k s) with
      | none => (s, plain .unknownKey)
      | some r => (ackRecord r s, { status := .ok, fields := [if ackCounts r then 1 else 0] })
  | _ => (s, plain .badField)

/-- ACK_ALARM (R139, R140). -/
def execAckAlarm (q : Request) (s : State) : Host.Outcome State Fault Refusal :=
  .next (runRequest .ackAlarm q (ackBody q.args) s)

/-- A request that names poles by a selector (R165, R167). -/
def polesBody (args : List Byte) (act : List Pole → State → State × Status) (s : State) : State × Reply :=
  match args with
  | [c] =>
    match polesOf c with
    | none => (s, plain .badField)
    | some poles => ((act poles s).1, plain (act poles s).2)
  | _ => (s, plain .badField)

/-- POLE_RAISE (R34). -/
def execPoleRaise (q : Request) (s : State) : Host.Outcome State Fault Refusal :=
  .next (runRequest .poleRaise q (polesBody q.args raisePoles) s)

/-- POLE_LOWER (R35). -/
def execPoleLower (q : Request) (s : State) : Host.Outcome State Fault Refusal :=
  .next (runRequest .poleLower q (polesBody q.args lowerPoles) s)

/-- SET_ACT_MASK: one pole, P or N, and a mask (R20, R165). -/
def maskBody (args : List Byte) (s : State) : State × Reply :=
  match args with
  | [c, m] =>
    match polesOf c, actMaskOf m with
    | some [pole], some mask => ((setMask pole mask s).1, plain (setMask pole mask s).2)
    | _, _ => (s, plain .badField)
  | _ => (s, plain .badField)

/-- SET_ACT_MASK (R20). -/
def execSetActMask (q : Request) (s : State) : Host.Outcome State Fault Refusal :=
  .next (runRequest .setActMask q (maskBody q.args) s)

/-! ### Opening and writing (R169, R170) -/

/-- Tables 2, 3 and 4 are covered by the settings lock (R169). -/
def lockCovers : TableId → Bool
  | .sections => false
  | .aux => false
  | _ => true

/-- The owner copies the active copy into the shadow copy (R169). -/
def copyToShadow (t : TableId) (s : State) : State :=
  match t with
  | .sections => { s with sct.shadow := some s.sct.active }
  | .aux => { s with axs.shadow := some s.axs.active }
  | .profile => { s with pwu.shadow := some s.pwu.active }
  | .parameter => { s with mge.shadow := some s.mge.params }
  | .classMap => { s with dec.shadow := some s.dec.classMap }

/-- R169: judge and open. -/
def openTableFor (t : TableId) (source : Node) (s : State) : State × Reply :=
  if s.mge.openTable.isSome then (s, plain .busy)
  else if lockCovers t && s.mge.lock then (s, plain .locked)
  else if decide (t = .sections) && s.sct.pendingTbl.isSome then (s, plain .busy)
  else
    let s := copyToShadow t s
    ({ s with mge.openTable := some { table := t, owner := source, tOpen := tOpen s.mge.params } }, plain .ok)

/-- A request whose only field is a table number (R165). -/
def tableBody (args : List Byte) (act : TableId → State → State × Reply) (s : State) : State × Reply :=
  match args with
  | [c] =>
    match tableOf c with
    | none => (s, plain .badField)
    | some t => act t s
  | _ => (s, plain .badField)

/-- TABLE_OPEN (R169). -/
def execTableOpen (q : Request) (s : State) : Host.Outcome State Fault Refusal :=
  .next (runRequest .tableOpen q (tableBody q.args (fun t => openTableFor t q.source)) s)

/-- Restart T_open with its current setting (R170, R172). -/
def restartOpenTimer (s : State) : State :=
  { s with mge.openTable := s.mge.openTable.map fun o => { o with tOpen := tOpen s.mge.params } }

/-- R170, steps 5 and 6: store the carried entries whole into the shadow copy, or `none` where one is refused. -/
def storeWrite (t : TableId) (start count : Nat) (data : List Byte) (s : State) : Option State :=
  let pieces := chunks (tableEntryBytes t) count data
  match t with
  | .sections => (readAll readSectionEntry sectionWriteRefused pieces).map fun es =>
      { s with sct.shadow := some (storeEntries (s.sct.shadow.getD s.sct.active) start es) }
  | .aux => (readAll readAuxEntry auxWriteRefused pieces).map fun es =>
      { s with axs.shadow := some (storeEntries (s.axs.shadow.getD s.axs.active) start es) }
  | .profile => (readAll readProfileEntry profileWriteRefused pieces).map fun es =>
      { s with pwu.shadow := some (storeEntries (s.pwu.shadow.getD s.pwu.active) start es) }
  | .parameter => (readAll readParamEntry (fun _ => false) pieces).map fun es =>
      { s with mge.shadow := some (storeEntries (s.mge.shadow.getD s.mge.params) start es) }
  | .classMap => (readAll readClassEntry (fun _ => false) pieces).map fun es =>
      { s with dec.shadow := some (storeEntries (s.dec.shadow.getD s.dec.classMap) start es) }

/-- Whether the named table is open, and open for this node: the first two judgements of R172 and R173, and steps 2
and 3 of R170. -/
def ownerCheck (t : TableId) (source : Node) (s : State) : Status :=
  match s.mge.openTable with
  | none => .notOpen
  | some o => if o.table ≠ t then .notOpen else if o.owner ≠ source then .notOwner else .ok

/-- R170 and R165: judge a write in order. -/
def writeBody (source : Node) (args : List Byte) (s : State) : State × Reply :=
  match args with
  | tc :: start :: count :: data =>
    match tableOf tc with
    | none => (s, plain .badField)
    | some t =>
      if count.toNat < 1 ∨ 8 < count.toNat ∨ data.length ≠ count.toNat * tableEntryBytes t then
        (s, plain .badField)
      else
        match ownerCheck t source s with
        | .ok =>
          if tableCapacity t < start.toNat + count.toNat then (s, plain .badIndex)
          else
            match storeWrite t start.toNat count.toNat data s with
            | none => (s, plain .badField)
            | some s1 => (restartOpenTimer s1, plain .ok)
        | r => (s, plain r)
  | _ => (s, plain .badField)

/-- TABLE_WRITE (R170). -/
def execTableWrite (q : Request) (s : State) : Host.Outcome State Fault Refusal :=
  .next (runRequest .tableWrite q (writeBody q.source q.args) s)

/-! ### Reading (R171) -/

/-- The bytes of `count` entries of a table's active copy from an index (R171, R188). -/
def activeBytes (t : TableId) (start count : Nat) (s : State) : List Byte :=
  match t with
  | .sections => ((s.sct.active.toList.drop start).take count).flatMap sectionEntryBytes
  | .aux => ((s.axs.active.toList.drop start).take count).flatMap auxEntryBytes
  | .profile => ((s.pwu.active.toList.drop start).take count).flatMap profileEntryBytes
  | .parameter => ((s.mge.params.toList.drop start).take count).flatMap be16
  | .classMap => (s.dec.classMap.toList.drop start).take count

/-- R171 and R165: judge a read. -/
def readTableBody (args : List Byte) (s : State) : State × Reply :=
  match args with
  | [tc, start, count] =>
    match tableOf tc with
    | none => (s, plain .badField)
    | some t =>
      if count.toNat < 1 ∨ 8 < count.toNat then (s, plain .badField)
      else if tableCapacity t < start.toNat + count.toNat then (s, plain .badIndex)
      else
        (s, { status := .ok, fields := [tc, start, count] ++ activeBytes t start.toNat count.toNat s })
  | _ => (s, plain .badField)

/-- TABLE_READ (R171). -/
def execTableRead (q : Request) (s : State) : Host.Outcome State Fault Refusal :=
  .next (runRequest .tableRead q (readTableBody q.args) s)

/-! ### Committing (R172) -/

/-- R22: whether a profile fails at commit. -/
def profileEntryFails (e : ProfileEntry) : Bool :=
  decide (e.bandMin.toNat ≤ e.stowedMax.toNat) || decide (e.drop.toNat ≤ e.bandMin.toNat) ||
    decide (e.confirm.toNat < 1) || decide (4 < e.confirm.toNat) || decide (e.rate = 0)

/-- R157: whether a class map code is none of the three assignments. -/
def classEntryFails (c : Byte) : Bool := decide (2 < c.toNat)

/-- The valid range of each parameter (R174). -/
def paramRange : List (Nat × Nat) :=
  [(0, 1023), (0, 1023), (0, 1023), (0, 1023), (0, 1023), (0, 1023), (0, 1023), (0, 1023), (0, 1023), (0, 1023),
    (0, 1023), (1, 255), (0, 255), (0, 7), (0, 1023), (1, 63), (1, 63), (10, 5000), (20, 1000), (20, 1000), (0, 255),
    (4, 100), (500, 20000), (500, 20000), (200, 60000), (10, 1000), (500, 60000)]

/-- R175: the relation a row names with a row at a lower index, or the node rule of row 15, is broken. -/
def paramRelationBroken (part : Node) (t : ParamTable) (index : Nat) : Bool :=
  if index = 2 then decide (vKnee t ≤ vMin t)
  else if index = 3 then decide (vMin t ≤ vLost t)
  else if index = 4 then decide (vRestore t ≤ vLost t)
  else if index = 6 then decide (vRmax t ≤ vRk t)
  else if index = 15 then decide (inverterNode t = part)
  else false

/-- R175: whether the parameter at an index fails. -/
def paramFails (part : Node) (t : ParamTable) (i : Fin 27) : Bool :=
  let v := t[i].toNat
  let range := paramRange.getD i.val (0, 65535)
  decide (v < range.1) || decide (range.2 < v) || paramRelationBroken part t i.val

/-- R175: the first failing index of a parameter table. -/
def firstBadParam (part : Node) (t : ParamTable) : Option Nat :=
  ((List.finRange 27).find? (paramFails part t)).map Fin.val

/-- The owner's walk of its shadow copy: the first failing index (R13, R22, R127, R157, R175). -/
def firstBad (t : TableId) (s : State) : Option Nat :=
  match t with
  | .sections => s.sct.shadow.bind firstBadSection
  | .aux => s.axs.shadow.bind fun x => firstFailing (auxEntryFails (partNode s)) x.toList
  | .profile => s.pwu.shadow.bind fun x => firstFailing profileEntryFails x.toList
  | .parameter => s.mge.shadow.bind (firstBadParam (partNode s))
  | .classMap => s.dec.shadow.bind fun x => firstFailing classEntryFails x.toList

/-- R176: the parameter table becomes active, and the blocks that act on the commit take it as an event. -/
def swapParams (t : ParamTable) (s : State) : State :=
  hand [.sctParameterCommit, .cbuParameterCommit, .axsParameterCommit] { s with mge.params := t }

/-- The owner's swap of a validated shadow copy, and the status it gives (R14, R22, R128, R157, R176). -/
def swapTable (t : TableId) (s : State) : State × Status :=
  match t with
  | .sections => swapSection (s.sct.shadow.getD s.sct.active) s
  | .aux => (swapAux (s.axs.shadow.getD s.axs.active) s, .ok)
  | .profile => ({ s with pwu.active := s.pwu.shadow.getD s.pwu.active }, .ok)
  | .parameter => (swapParams (s.mge.shadow.getD s.mge.params) s, .ok)
  | .classMap => ({ s with dec.classMap := s.dec.shadow.getD s.dec.classMap }, .ok)

/-- The table closes (R172, R173). -/
def closeTable (s : State) : State := { s with mge.openTable := none }

/-- R172: judge and commit. -/
def commitTable (source : Node) (t : TableId) (s : State) : State × Reply :=
  match ownerCheck t source s with
  | .ok =>
    match firstBad t s with
    | some i => (restartOpenTimer s, { status := .invalidTable, fields := [BitVec.ofNat 8 i] })
    | none => ((swapTable t (closeTable s)).1, plain (swapTable t (closeTable s)).2)
  | r => (s, plain r)

/-- TABLE_COMMIT (R172). -/
def execTableCommit (q : Request) (s : State) : Host.Outcome State Fault Refusal :=
  .next (runRequest .tableCommit q (tableBody q.args (commitTable q.source)) s)

/-! ### Abandoning (R173) and the settings lock (R177) -/

/-- The owner discards the shadow contents (R173). -/
def discardShadow (t : TableId) (s : State) : State :=
  match t with
  | .sections => { s with sct.shadow := none }
  | .aux => { s with axs.shadow := none }
  | .profile => { s with pwu.shadow := none }
  | .parameter => { s with mge.shadow := none }
  | .classMap => { s with dec.shadow := none }

/-- R173: abandon the open table, with its notice. -/
def abandonTable (cause : AbandonCause) (s : State) : State :=
  match s.mge.openTable with
  | none => s
  | some o =>
    placeNotice [7, tableCode o.table, nodeByte o.owner, abandonCauseCode cause]
      (discardShadow o.table (closeTable s))

/-- R173: TABLE_ABANDON. -/
def abandonBody (source : Node) (t : TableId) (s : State) : State × Reply :=
  match ownerCheck t source s with
  | .ok => (abandonTable .request s, plain .ok)
  | r => (s, plain r)

/-- TABLE_ABANDON (R173). -/
def execTableAbandon (q : Request) (s : State) : Host.Outcome State Fault Refusal :=
  .next (runRequest .tableAbandon q (tableBody q.args (abandonBody q.source)) s)

/-- T_OPEN_EXPIRY (R173). T_open runs only while a table is open. -/
def execTOpenExpiry (s : State) : Host.Outcome State Fault Refusal := .next (abandonTable .timeout s)

/-- R177: abandon a table that the lock covers. -/
def abandonForLock (s : State) : State :=
  match s.mge.openTable with
  | none => s
  | some o => if lockCovers o.table then abandonTable .lock s else s

/-- R177: set the lock. -/
def setLock (s : State) : State :=
  let s := abandonForLock s
  lockMasks { s with mge.lock := true }

/-- R177: LOCK_SETTINGS. -/
def lockBody (args : List Byte) (s : State) : State × Reply :=
  if args = [] then (if s.mge.lock then s else setLock s, plain .ok) else (s, plain .badField)

/-- LOCK_SETTINGS (R177). -/
def execLockSettings (q : Request) (s : State) : Host.Outcome State Fault Refusal :=
  .next (runRequest .lockSettings q (lockBody q.args) s)

/-! ### RESTART's response (R178) and unknown requests (R165) -/

/-- R178: place the OK response, one segment, and wait for the end of its transmission. -/
def answerRestart (q : Request) (s : State) : State :=
  { s with upi.groupA := s.upi.groupA ++
             [.response (builtFrame 6 q.source (partNode s) [reqCodeNum .restart, statusCode .ok]) true],
           mge.awaitRestart := true }

/-- RESTART (R178). -/
def execRestart (q : Request) (s : State) : Host.Outcome State Fault Refusal :=
  .next <|
    match takeRequest (reqCodeNum .restart :: q.args) q s with
    | none => s
    | some s1 =>
      if q.overLength = true ∨ q.args ≠ [] then respond q.source (reqCodeNum .restart) (plain .badField) s1
      else answerRestart q s1

/-- R165, cases 1 to 3: the answer to a payload that names no request. -/
def unknownReply (q : Request) : Byte × Reply :=
  match q.args with
  | [] => (0, plain .badField)
  | c :: _ => (c, if q.overLength then plain .badField else plain .unknownRequest)

/-- UNKNOWN_REQUEST (R165). A payload that names a request is not this event and changes nothing. -/
def execUnknownRequest (q : Request) (s : State) : Host.Outcome State Fault Refusal :=
  .next <|
    if q.unknownPayload then
      match takeRequest q.args q s with
      | none => s
      | some s1 => respond q.source (unknownReply q).1 (unknownReply q).2 s1
    else s

end Sys2Proof.Machine
end

