-- ==== Sys2Proof/Machine/Upstream.lean ====
section
/-! DEFINITION. The Upstream Port Interface (spec/09_frame_paths_and_egress_lanes.md): frames received on Port U and their
classification, and the start of a transmission on Port U. -/

namespace Sys2Proof.Machine

/-- R157 and R148: a general frame by its class map entry: lane 0, lane 2, or dropped without an error. -/
def forwardGeneral (f : Frame) (s : State) : State :=
  if h : f.cls.toNat - 11 < 5 then
    let code := s.dec.classMap[f.cls.toNat - 11]
    if code = 1 then forwardLane0 f s else if code = 0 then forwardLane2 f s else s
  else s

/-- The event of a class 2 frame delivered to AXS: AUX_REQUEST_OFF where it asks for OFF, else AUX_REQUEST_ON. -/
def auxRequestEvent (f : Frame) : Instr := if f.payload[1]? = some 0 then .auxRequestOff f else .auxRequestOn f

/-- R148: classify an accepted Port U frame by class and destination. -/
def classifyU (f : Frame) (s : State) : State :=
  let toPart : Bool := decide (f.dst = partNode s)
  let broadcast : Bool := decide (f.dst = 0)
  let refused := errorU .classRefused s
  if f.cls = 0 then (if toPart then refused else forwardLane0 f s)
  else if f.cls = 1 then
    (if !broadcast && decide (f.dst = inverterNode s.mge.params) then hand [.tractionDemand f] s else refused)
  else if f.cls = 2 then (if toPart then hand [auxRequestEvent f] s else refused)
  else if f.cls = 4 then (if toPart || broadcast then hand [.positionFrame f] s else refused)
  else if f.cls = 5 then
    (if toPart then hand [.mgmtSegment f] s else if broadcast then refused else forwardLane2 f s)
  else if 11 ≤ f.cls.toNat then (if toPart then refused else forwardGeneral f s)
  else refused

/-- R147, R148: a frame that ends on Port U is refused, or classified. -/
def receiveU (bytes : List Byte) (s : State) : State :=
  match parseFrame bytes with
  | .error c => errorU c s
  | .ok f => classifyU f s

/-- PORT_U_FRAME_RECEIVED (R147, R148); a frame met under way at power-on is not received (R161). -/
def execPortUFrameReceived (bytes : List Byte) (s : State) : Host.Outcome State Fault Refusal :=
  .next (if s.upi.underWay then { s with upi.underWay := false } else receiveU bytes s)

/-- Begin sending an entry of group A; a response entry that has freed takes a waiting segment (R159, R164). -/
def sendGroupA (x : GroupA) (rest : List GroupA) (s : State) : State :=
  let tx : PortUTx :=
    match x with
    | .response f r => { wire := frameWire f, restart := r }
    | .alarm _ f => { wire := frameWire f, restart := false }
  placeSegments { s with upi.groupA := rest, upi.sending := some tx }

/-- Begin sending an entry of group B; a notice takes the gap flag after a loss (R159). -/
def sendGroupB (x : GroupB) (rest : List GroupB) (s : State) : State :=
  let s := { s with upi.groupB := rest }
  match x with
  | .notice f =>
    { s with upi.sending := some { wire := frameWire (if s.upi.noticeLost then withGap f else f), restart := false },
             upi.noticeLost := false }
  | .status f => { s with upi.sending := some { wire := frameWire f, restart := false } }
  | .other f => { s with upi.sending := some { wire := frameWire f, restart := false } }

/-- R159: the earliest waiting frame of group A, or else of group B. -/
def startUpstream (s : State) : State :=
  match s.upi.groupA, s.upi.groupB with
  | x :: rest, _ => sendGroupA x rest s
  | [], x :: rest => sendGroupB x rest s
  | [], [] => s

/-- UPSTREAM_TX_START (R159): Port U can take a frame. While one is being sent it cannot, and nothing changes. -/
def execUpstreamTxStart (s : State) : Host.Outcome State Fault Refusal :=
  .next (if s.upi.sending.isSome then s else startUpstream s)

end Sys2Proof.Machine
end

