-- ==== Sys2Proof/Machine/Resets.lean ====
section
/-! DEFINITION. The two resets: power-on reset (R179 and each block's table) and RESTART taking effect at the end of its
response (R178, with R17, R41, R55, R70, R88, R104, R130, R145, R160). -/

namespace Sys2Proof.Machine

/-- What a power-on reset finds under way on the ports: what the input says, and a frame of another station that the part
knows of and whose end has not been seen (R55, R161; log entry 8). -/
def foundUnderWay (s : State) : UnderWay :=
  { portU := s.found.portU || s.upi.underWay
    portD := s.found.portD || s.dec.underWay
    portS := s.found.portS || s.pli.lineBusy }

/-- POWER_ON_RESET: every block takes its power-on values and the millisecond count starts from 0; the inputs (strap, hold
and what is found on the ports) keep their levels, and events under way between blocks are gone. A frame found under way on a
port is noted, so that it is not received, and PLI waits for an idle line after the one on Port S (R55, R161). DEDUCED, log entry
6: a frame of the part's own in transmission on Port D or Port U is dropped, since R160's completion is RESTART's and R161
does not say. On Port S, R55 says that none is in progress. -/
def execPowerOnReset (s : State) : Host.Outcome State Fault Refusal :=
  .next { State.reset with
    strap := s.strap, found := s.found, pending := s.pending
    dec := { Dec.reset with held := s.dec.held, underWay := (foundUnderWay s).portD }
    upi := { Upi.reset with underWay := (foundUnderWay s).portU }
    pli := { Pli.reset with underWay := (foundUnderWay s).portS, lineBusy := (foundUnderWay s).portS } }

/-- R41: a channel at RESTART, keeping its act mask. -/
def restartChannel (t : ParamTable) (c : Channel) : Channel := .fresh c.mask (tSmp t)

/-- R41: PWU at RESTART; the view it records is the default view that SCT takes (R17, R21). -/
def restartPwu (s : State) : State :=
  { s with pwu := { s.pwu with chP := restartChannel s.mge.params s.pwu.chP,
                               chN := restartChannel s.mge.params s.pwu.chN, shadow := none,
                               view := defaultView s.mge.params false } }

/-- R55: PLI at RESTART; its frame on the line is completed and not acted on, and the line's own state stays. -/
def restartPli (s : State) : State :=
  { s with pli := { Pli.reset with sending := s.pli.sending.map (fun t => { t with orphan := true }),
                                   lineBusy := s.pli.lineBusy, underWay := s.pli.underWay,
                                   ackDriven := s.pli.ackDriven } }

/-- R160: DEC and UPI at RESTART; the class map and the hold's level are kept, a frame in transmission is completed, and a
frame that was under way at power-on is still not received. -/
def restartPorts (s : State) : State :=
  { s with dec := { Dec.reset with classMap := s.dec.classMap, shadow := none, held := s.dec.held,
                                   underWay := s.dec.underWay,
                                   sending := s.dec.sending.map (fun t => { t with orphan := true }) },
           upi := { Upi.reset with sending := s.upi.sending, underWay := s.upi.underWay } }

/-- R179: MGE at RESTART: the lock and the active parameters are kept. -/
def restartMge (s : State) : State :=
  { s with mge := { Mge.reset with lock := s.mge.lock, params := s.mge.params, shadow := none } }

/-- SMC, CBU, TAU and ALM at RESTART (R70, R88, R104, R145); events under way between blocks are gone. -/
def restartCores (s : State) : State :=
  { s with smc := .reset, cbu := .fresh s.mge.params, tau := .fresh s.mge.params, alm := [], handed := [] }

/-- R178: the restart takes effect. The lanes and the upstream queue are emptied before the RESTARTED notice, TAU's
RESTART cut and AXS's OFF commands are placed (R104, R130, R160). -/
def restartAll (s : State) : State :=
  let s := restartMge (restartPorts (restartCores (restartAxs (restartPli (restartPwu (restartSct s))))))
  commandAllOff (requestCut .restart (placeNotice [8] s))

/-- UPSTREAM_TX_END (R178): the end of the RESTART response makes the restart take effect. -/
def execUpstreamTxEnd (s : State) : Host.Outcome State Fault Refusal :=
  .next <|
    match s.upi.sending with
    | none => s
    | some t =>
      let s1 := { s with upi.sending := none }
      if t.restart then restartAll s1 else s1

end Sys2Proof.Machine
end

