-- ==== Sys2Proof/Machine/Dispatch.lean ====
section
/-! DEFINITION. One arm for each command: its meaning, called once. -/

namespace Sys2Proof.Machine

/-- The effect of a command on everything but the queue. -/
def exec (i : Instr) (s : State) : Host.Outcome State Fault Refusal :=
  match i with
  | .powerOnReset => Sys2Proof.Machine.execPowerOnReset s
  | .portUFrameReceived bytes => Sys2Proof.Machine.execPortUFrameReceived bytes s
  | .positionFrame f => Sys2Proof.Machine.execPositionFrame f s
  | .tPosExpiry => Sys2Proof.Machine.execTPosExpiry s
  | .sctParameterCommit => Sys2Proof.Machine.execSctParameterCommit s
  | .tractionDemand f => Sys2Proof.Machine.execTractionDemand f s
  | .auxRequestOn f => Sys2Proof.Machine.execAuxRequestOn f s
  | .auxRequestOff f => Sys2Proof.Machine.execAuxRequestOff f s
  | .mgmtSegment f => Sys2Proof.Machine.execMgmtSegment f s
  | .tSegExpiry source => Sys2Proof.Machine.execTSegExpiry source s
  | .portDFrameReceived bytes => Sys2Proof.Machine.execPortDFrameReceived bytes s
  | .driveStatus f => Sys2Proof.Machine.execDriveStatus f s
  | .auxStatus f => Sys2Proof.Machine.execAuxStatus f s
  | .portSFrameReceived bytes => Sys2Proof.Machine.execPortSFrameReceived bytes s
  | .sampleAccepted pole sample => Sys2Proof.Machine.execSampleAccepted pole sample s
  | .commandTxStart => Sys2Proof.Machine.execCommandTxStart s
  | .arbitrationLost => Sys2Proof.Machine.execArbitrationLost s
  | .commandTxEnd acknowledged => Sys2Proof.Machine.execCommandTxEnd acknowledged s
  | .tCmdExpiry pole => Sys2Proof.Machine.execTCmdExpiry pole s
  | .tSmpExpiry pole => Sys2Proof.Machine.execTSmpExpiry pole s
  | .tRaiseExpiry pole => Sys2Proof.Machine.execTRaiseExpiry pole s
  | .tRetrExpiry pole => Sys2Proof.Machine.execTRetrExpiry pole s
  | .sectionViewAtPwu view => Sys2Proof.Machine.execSectionViewAtPwu view s
  | .poleReport pole state changed => Sys2Proof.Machine.execPoleReport pole state changed s
  | .sectionViewAtSmc view => Sys2Proof.Machine.execSectionViewAtSmc view s
  | .poleDropAckReport pole => Sys2Proof.Machine.execPoleDropAckReport pole s
  | .noLineTimerExpiry => Sys2Proof.Machine.execNoLineTimerExpiry s
  | .voltageSample pole volts => Sys2Proof.Machine.execVoltageSample pole volts s
  | .modeAtCbu mode => Sys2Proof.Machine.execModeAtCbu mode s
  | .sectionViewAtCbu view => Sys2Proof.Machine.execSectionViewAtCbu view s
  | .reservationAtCbu reservation => Sys2Proof.Machine.execReservationAtCbu reservation s
  | .cbuParameterCommit => Sys2Proof.Machine.execCbuParameterCommit s
  | .budgetRecordAtTau record => Sys2Proof.Machine.execBudgetRecordAtTau record s
  | .budgetRecordAtAxs record => Sys2Proof.Machine.execBudgetRecordAtAxs record s
  | .cutRequest cause => Sys2Proof.Machine.execCutRequest cause s
  | .tStaleExpiry => Sys2Proof.Machine.execTStaleExpiry s
  | .tCutExpiry => Sys2Proof.Machine.execTCutExpiry s
  | .minOnExpiry load => Sys2Proof.Machine.execMinOnExpiry load s
  | .minOffExpiry load => Sys2Proof.Machine.execMinOffExpiry load s
  | .axsParameterCommit => Sys2Proof.Machine.execAxsParameterCommit s
  | .alarmRaise key acted => Sys2Proof.Machine.execAlarmRaise key acted s
  | .alarmClear key => Sys2Proof.Machine.execAlarmClear key s
  | .portDGrant => Sys2Proof.Machine.execPortDGrant s
  | .portDTxEnd => Sys2Proof.Machine.execPortDTxEnd s
  | .holdStart => Sys2Proof.Machine.execHoldStart s
  | .holdEnd => Sys2Proof.Machine.execHoldEnd s
  | .holdTimerExpiry => Sys2Proof.Machine.execHoldTimerExpiry s
  | .upstreamTxStart => Sys2Proof.Machine.execUpstreamTxStart s
  | .upstreamTxEnd => Sys2Proof.Machine.execUpstreamTxEnd s
  | .readIdent q => Sys2Proof.Machine.execReadIdent q s
  | .readState q => Sys2Proof.Machine.execReadState q s
  | .readLoads q => Sys2Proof.Machine.execReadLoads q s
  | .readAlarms q => Sys2Proof.Machine.execReadAlarms q s
  | .ackAlarm q => Sys2Proof.Machine.execAckAlarm q s
  | .poleRaise q => Sys2Proof.Machine.execPoleRaise q s
  | .poleLower q => Sys2Proof.Machine.execPoleLower q s
  | .setActMask q => Sys2Proof.Machine.execSetActMask q s
  | .tableOpen q => Sys2Proof.Machine.execTableOpen q s
  | .tableWrite q => Sys2Proof.Machine.execTableWrite q s
  | .tableRead q => Sys2Proof.Machine.execTableRead q s
  | .tableCommit q => Sys2Proof.Machine.execTableCommit q s
  | .tableAbandon q => Sys2Proof.Machine.execTableAbandon q s
  | .tOpenExpiry => Sys2Proof.Machine.execTOpenExpiry s
  | .lockSettings q => Sys2Proof.Machine.execLockSettings q s
  | .readErrors q => Sys2Proof.Machine.execReadErrors q s
  | .restart q => Sys2Proof.Machine.execRestart q s
  | .unknownRequest q => Sys2Proof.Machine.execUnknownRequest q s

end Sys2Proof.Machine
end

