-- ==== Sys2Proof/Machine/Idle.lean ====
section
/-! DEFINITION. What the part does by itself when no command waits: events between blocks are taken, due timers expire,
a waiting request is taken, Port D is granted, and otherwise a millisecond passes (DESIGN CHOICE; the assumption log
says in which order). -/

namespace Sys2Proof.Machine

/-! ### Timers -/

/-- The timers of one channel with the commands of their expiries. -/
def channelTimers (pole : Pole) (s : State) : List (Timer × Instr) :=
  [((channel s pole).tSmp, .tSmpExpiry pole), ((channel s pole).tRaise, .tRaiseExpiry pole),
    ((channel s pole).tRetr, .tRetrExpiry pole), ((slot s pole).tCmd, .tCmdExpiry pole)]

/-- The minimum timers of one load. -/
def loadTimers (s : State) (i : LoadIx) : List (Timer × Instr) :=
  [((loadRec s i).minOn, .minOnExpiry i), ((loadRec s i).minOff, .minOffExpiry i)]

/-- T_seg of one request entry. -/
def segTimer (e : ReqEntry) : Timer × Instr :=
  match e.assembly with
  | .assembling n => (some n, .tSegExpiry e.source)
  | .complete _ => (none, .tSegExpiry e.source)

/-- Every timer of the part with the command of its expiry. -/
def timers (s : State) : List (Timer × Instr) :=
  [(s.sct.tPos, .tPosExpiry)] ++ channelTimers .p s ++ channelTimers .n s ++
  [(s.smc.noLine, .noLineTimerExpiry), (s.tau.tStale, .tStaleExpiry), (s.tau.tCut, .tCutExpiry),
    (s.dec.tHeld, .holdTimerExpiry), (s.mge.openTable.map OpenTable.tOpen, .tOpenExpiry)] ++
  (List.finRange 16).flatMap (loadTimers s) ++ s.mge.queue.map segTimer

/-- The expiry of the first timer with no time left. -/
def dueExpiry (s : State) : Option Instr := ((timers s).find? fun x => decide (x.1 = some 0)).map Prod.snd

/-- A timer after one millisecond. -/
def Timer.tick (t : Timer) : Timer := t.map Nat.pred

def Channel.tick (c : Channel) : Channel :=
  { c with tSmp := Timer.tick c.tSmp, tRaise := Timer.tick c.tRaise, tRetr := Timer.tick c.tRetr }

def Slot.tick (x : Slot) : Slot := { x with tCmd := Timer.tick x.tCmd }

def LoadRec.tick (r : LoadRec) : LoadRec := { r with minOn := Timer.tick r.minOn, minOff := Timer.tick r.minOff }

def ReqEntry.tick (e : ReqEntry) : ReqEntry :=
  match e.assembly with
  | .assembling n => { e with assembly := .assembling n.pred }
  | .complete _ => e

/-- One millisecond: the count advances, wrapping, and every running timer has one millisecond less left. -/
def tick (s : State) : State :=
  { s with ms := s.ms + 1,
           sct.tPos := Timer.tick s.sct.tPos,
           pwu.chP := s.pwu.chP.tick, pwu.chN := s.pwu.chN.tick,
           pli.slotP := s.pli.slotP.tick, pli.slotN := s.pli.slotN.tick,
           smc.noLine := Timer.tick s.smc.noLine,
           tau.tStale := Timer.tick s.tau.tStale, tau.tCut := Timer.tick s.tau.tCut,
           axs.loads := s.axs.loads.map LoadRec.tick,
           dec.tHeld := Timer.tick s.dec.tHeld,
           mge.queue := s.mge.queue.map ReqEntry.tick,
           mge.openTable := s.mge.openTable.map fun o => { o with tOpen := o.tOpen.pred } }

/-! ### Requests and grants -/

/-- The request a code names (R187). -/
def requestInstr (code : Byte) (q : Request) : Option Instr :=
  if code = 1 then some (.readIdent q) else if code = 2 then some (.readState q)
  else if code = 3 then some (.readLoads q) else if code = 4 then some (.readAlarms q)
  else if code = 5 then some (.ackAlarm q) else if code = 6 then some (.poleRaise q)
  else if code = 7 then some (.poleLower q) else if code = 8 then some (.setActMask q)
  else if code = 9 then some (.tableOpen q) else if code = 10 then some (.tableWrite q)
  else if code = 11 then some (.tableRead q) else if code = 12 then some (.tableCommit q)
  else if code = 13 then some (.tableAbandon q) else if code = 14 then some (.lockSettings q)
  else if code = 15 then some (.readErrors q) else if code = 16 then some (.restart q) else none

/-- The command that a queue entry's payload asks for. -/
def entryInstr (e : ReqEntry) : Instr :=
  let unknown : Instr := .unknownRequest { source := e.source, args := e.payload, overLength := e.overLength }
  match e.payload with
  | [] => unknown
  | c :: args => (requestInstr c { source := e.source, args := args, overLength := e.overLength }).getD unknown

/-- The request MGE takes next, where it can take one (R164). -/
def nextRequest (s : State) : Option Instr :=
  if mgeReady s then (earliestComplete s.mge.queue).map entryInstr else none

/-- A grant is allowed: nothing is being sent on Port D, no hold is in effect and a lane is non-empty (R152). -/
def grantAllowed (s : State) : Bool := s.dec.sending.isNone && !s.dec.held && lanesNonEmpty s.dec.lanes

/-- The next thing the part does by itself, if anything is due. -/
def nextOwn (s : State) : Option Instr :=
  match s.handed with
  | c :: _ => some c
  | [] =>
    match dueExpiry s with
    | some c => some c
    | none =>
      match nextRequest s with
      | some c => some c
      | none => if grantAllowed s then some .portDGrant else none

/-- A step with no command waiting. -/
def idle (s : State) : Host.Outcome State Fault Refusal :=
  match nextOwn s with
  | some c => exec c s
  | none => .next (tick s)

end Sys2Proof.Machine
end

