-- ==== Sys2Proof/Safety.lean ====
section
/-! DEFINITION. The terms that claims about the VR-412 use: what a legal state of each block is (the invariants that
every step keeps), and the wording of the numbered rules that the statements share. -/

namespace Sys2Proof.Machine

/-! ### Legal states, block by block -/

/-- R132, R133: one record for each key; the acted flag present exactly for POLE_DROP keys; repeat counts 1 to 255. -/
def AlarmsLegal (s : State) : Prop :=
  (s.alm.map AlarmRec.key).Nodup ∧
    ∀ r ∈ s.alm, r.acted.isSome = r.key.isPoleDrop ∧ 1 ≤ r.repeats ∧ r.repeats ≤ 255

/-- R56, R61: the latch is set exactly in DEWIRED, and the NO_LINE timer runs only in WIRE. -/
def SupplyLegal (s : State) : Prop :=
  (s.smc.latch = true ↔ s.smc.mode = .dewired) ∧ (s.smc.noLine.isSome = true → s.smc.mode = .wire)

/-- The timers of 2.4, and what each state of a channel says of its other fields (R19, R30, R32, R57). -/
def ChannelLegal (c : Channel) : Prop :=
  (c.tSmp = none ↔ c.state = .lost) ∧ (c.tRaise.isSome = true ↔ c.state = .raising) ∧
  (c.tRetr.isSome = true ↔ c.state = .retrieving ∨ c.state = .lowering) ∧
  (c.state = .dropped → c.mask = .reportOnly) ∧
  (c.state = .retrieving → c.mask = .autonomous ∧ c.lastDropActed = true) ∧
  (c.suspect ≠ 0 → c.state = .suspect) ∧
  (c.state = .onWire ∨ c.state = .suspect ∨ c.state = .dropped → c.last.isSome = true)

/-- Both channels are legal, a good count is kept outside RAISING and DROPPED only by the settings lock's action (R33),
and the settings lock holds both masks AUTONOMOUS and the tables it covers closed (R33, R177). -/
def PolesLegal (s : State) : Prop :=
  ChannelLegal s.pwu.chP ∧ ChannelLegal s.pwu.chN ∧
  (∀ pole, (channel s pole).good ≠ 0 → (channel s pole).state = .raising ∨ (channel s pole).state = .dropped ∨
    s.mge.lock = true) ∧
  (s.mge.lock = true → s.pwu.chP.mask = .autonomous ∧ s.pwu.chN.mask = .autonomous ∧
    ∀ o, s.mge.openTable = some o → o.table = .sections ∨ o.table = .aux)

/-- R89, R92, R96: the admitted demand lies within the record in use, T_cut runs exactly while the window is open, and
the cut slot holds a frame exactly when TAU has one waiting, with its cause. -/
def TractionLegal (s : State) : Prop :=
  -(s.tau.record.regen : Int) ≤ s.tau.admitted ∧ s.tau.admitted ≤ (s.tau.record.motoring : Int) ∧
  (s.tau.window = true ↔ s.tau.tCut.isSome = true) ∧
  s.dec.lanes.cut.map Frame.payload = s.tau.cutWaiting.map cutPayload

/-- R77, R79: the record is the one last published, its motoring allowance is 0 or makes up the supply allowance with the
reservation, and it is 0 in the coasting rows. -/
def BudgetLegal (s : State) : Prop :=
  s.cbu.record = s.cbu.published ∧
  (s.cbu.record.motoring = 0 ∨ s.cbu.record.motoring + s.cbu.record.reservation = s.cbu.record.supply) ∧
  (isCoasting s.cbu.record.mode = true → s.cbu.record.motoring = 0)

/-- What the state of a load says of its record and entry (R107, R108, R113, R118, R120, R128). -/
def LoadLegal (s : State) (i : LoadIx) : Prop :=
  let r := loadRec s i
  (i ∈ s.axs.joinOrder ↔ r.state = .waiting ∨ r.state = .shed) ∧
  (r.joined.isSome = true ↔ r.state = .waiting ∨ r.state = .shed) ∧
  (r.requested = true ↔ r.state ≠ .off) ∧
  (r.minOn.isSome = true → r.state = .on) ∧ (r.state = .on → r.minOff = none) ∧
  ((auxEntry s i).valid = false → r.state = .off) ∧
  (r.state = .on → fromBattery s.axs.record.mode = true → (auxEntry s i).battery = true)

/-- R108, R109: the reservation is the sum of the nominal currents of the ON loads, the waiting list holds no load twice,
and every load is legal. -/
def LoadsLegal (s : State) : Prop :=
  s.axs.reservation = onSum s ∧ s.axs.joinOrder.Nodup ∧ ∀ i, LoadLegal s i

/-- R150, R152, R156: the bounds of the lanes and of the grant count, one command per load, and the hold timer running
exactly when R156 says. -/
def LanesLegal (s : State) : Prop :=
  s.dec.lanes.fifo0.length ≤ 4 ∧ s.dec.lanes.fifo2.length ≤ 8 ∧ (s.dec.lanes.slots.map Prod.fst).Nodup ∧
  s.dec.grants ≤ 16 ∧ (s.dec.heldExpired = true → s.dec.held = true) ∧
  (s.dec.tHeld.isSome = true ↔
    s.dec.held = true ∧ lanesNonEmpty s.dec.lanes = true ∧ s.dec.heldExpired = false)

/-- The alarm keys that wait in group A. -/
def waitingKeys (l : List GroupA) : List AlarmKey :=
  l.filterMap fun x => match x with | .alarm k _ => some k | .response _ _ => none

/-- The pairs of source node and class that wait as status entries. -/
def waitingPairs (l : List GroupB) : List (Node × BitVec 4) :=
  l.filterMap fun x => match x with | .status f => some (f.src, f.cls) | .notice _ => none | .other _ => none

/-- R158, R162, R164: the bounds of the upstream queue and of the request queue, one alarm frame per key, one status
entry per pair, one request in assembly per source, and segments held back only while every response entry is
occupied. -/
def QueuesLegal (s : State) : Prop :=
  responseCount s ≤ 4 ∧ s.upi.groupB.countP GroupB.isNotice ≤ 8 ∧ s.upi.groupB.countP GroupB.isStatus ≤ 16 ∧
  s.upi.groupB.countP GroupB.isOther ≤ 8 ∧ (waitingKeys s.upi.groupA).Nodup ∧
  (waitingPairs s.upi.groupB).Nodup ∧ (s.mge.toPlace ≠ [] → responseCount s = 4) ∧ s.mge.queue.length ≤ 4 ∧
  ∀ source, (s.mge.queue.filter (assemblingOf source)).length ≤ 1

/-- The active tables that their owners' walks have passed (R13, R22, R127, R157, R175), a pending section table among
them, and no section table open while one is pending (R15). -/
def TablesLegal (s : State) : Prop :=
  firstBadSection s.sct.active = none ∧ (∀ t, s.sct.pendingTbl = some t → firstBadSection t = none) ∧
  firstFailing (auxEntryFails (partNode s)) s.axs.active.toList = none ∧
  firstFailing profileEntryFails s.pwu.active.toList = none ∧
  firstBadParam (partNode s) s.mge.params = none ∧
  firstFailing classEntryFails s.dec.classMap.toList = none ∧
  (∀ o, s.mge.openTable = some o → o.table = .sections → s.sct.pendingTbl = none)

/-- Every block's state is legal. -/
def Legal (s : State) : Prop :=
  AlarmsLegal s ∧ SupplyLegal s ∧ PolesLegal s ∧ TractionLegal s ∧ BudgetLegal s ∧ LoadsLegal s ∧ LanesLegal s ∧
  QueuesLegal s ∧ TablesLegal s

/-! ### The wording of the rules -/

/-- R5: a valid entry of this route tag whose span contains the chainage. -/
def Covers (e : SectionEntry) (route : Byte) (c : Half) : Prop :=
  e.valid = true ∧ e.route = route ∧ e.start.toNat ≤ c.toNat ∧ c.toNat < e.stop.toNat

/-- R1: two spans overlap when each starts before the other ends. -/
def Overlaps (a b : SectionEntry) : Prop := a.start.toNat < b.stop.toNat ∧ b.start.toNat < a.stop.toNat

/-- R13: the seven grounds on which the valid entry at an index fails. -/
def SectionFails (t : SectionTable) (j : Fin 128) : Prop :=
  t[j].valid = true ∧
    (¬ t[j].start.toNat < t[j].stop.toNat ∨
     4 < t[j].kind.toNat ∨
     3 < t[j].profile.toNat ∨
     t[j].id = 0 ∨
     (∃ i : Fin 128, i < j ∧ t[i].valid = true ∧ t[i].id = t[j].id) ∨
     (t[j].route ≠ 255 ∧ ∃ i : Fin 128, i < j ∧ t[i].valid = true ∧ t[i].route = t[j].route ∧ Overlaps t[i] t[j]) ∨
     (t[j].route = 255 ∧ ∃ i : Fin 128, i < j ∧ t[i].valid = true ∧ t[i].route = 255 ∧ Overlaps t[i] t[j]))

/-- A walk answers the first index at which an entry fails, and nothing exactly where none does (R13, R22, R127, R157,
R175). -/
def NamesFirstFailure {n : Nat} (walk : Option Nat) (fails : Fin n → Prop) : Prop :=
  (walk = none ↔ ∀ j, ¬ fails j) ∧ ∀ j, walk = some j.val ↔ fails j ∧ ∀ i, i < j → ¬ fails i

/-- R127: the three grounds on which a valid aux entry fails. A converter node is the low six bits of its byte (log entry
21). -/
def AuxFails (part : Node) (e : AuxEntry) : Prop :=
  e.valid = true ∧ (e.node = 0 ∨ e.node.setWidth 6 = part ∨ e.nominal = 0)

/-- R22: the four grounds on which a profile entry fails. -/
def ProfileFails (e : ProfileEntry) : Prop :=
  ¬ e.stowedMax.toNat < e.bandMin.toNat ∨ ¬ e.bandMin.toNat < e.drop.toNat ∨
    ¬ (1 ≤ e.confirm.toNat ∧ e.confirm.toNat ≤ 4) ∨ e.rate = 0

/-- R174: the bounds of the valid range of the parameter at an index. -/
def paramBounds (index : Nat) : Nat × Nat :=
  match index with
  | 11 => (1, 255)
  | 12 => (0, 255)
  | 13 => (0, 7)
  | 15 => (1, 63)
  | 16 => (1, 63)
  | 17 => (10, 5000)
  | 18 => (20, 1000)
  | 19 => (20, 1000)
  | 20 => (0, 255)
  | 21 => (4, 100)
  | 22 => (500, 20000)
  | 23 => (500, 20000)
  | 24 => (200, 60000)
  | 25 => (10, 1000)
  | 26 => (500, 60000)
  | _ => (0, 1023)

/-- R175: the parameter at an index lies outside its range, or breaks the relation that its row names. -/
def ParamFails (part : Node) (t : ParamTable) (j : Fin 27) : Prop :=
  let v := fun i : Fin 27 => t[i].toNat
  ¬ ((paramBounds j.val).1 ≤ v j ∧ v j ≤ (paramBounds j.val).2) ∨ (j = 2 ∧ ¬ v 1 < v 2) ∨ (j = 3 ∧ ¬ v 3 < v 1) ∨ (j = 4 ∧ ¬ v 3 < v 4) ∨
    (j = 6 ∧ ¬ v 5 < v 6) ∨ (j = 15 ∧ v 15 = part.toNat)

/-- R54: a record that has taken a code with this flag bit. -/
def tookCode (e : ErrRec) (c : ErrCode) (bit : Nat) : ErrRec := { last := some c, flags := e.flags ||| (1 <<< bit) }

/-- R50: a pole's slot once a command has entered it. -/
def commanded (cmd : RetrieverCmd) (pole : Pole) (s : State) : Slot :=
  { state := .waiting, cmd := some cmd, tx := 0, entry := s.ms, tCmd := some 20,
    linePending := (slot s pole).linePending || decide ((slot s pole).state = .sending) }

/-- Nothing of PWU and PLI changes but one pole's channel and command slot. -/
def OnlyPole (pole : Pole) (s t : State) : Prop :=
  (∀ q, q ≠ pole → channel t q = channel s q ∧ slot t q = slot s q) ∧
  t.pwu = { s.pwu with chP := t.pwu.chP, chN := t.pwu.chN } ∧
  t.pli = { s.pli with slotP := t.pli.slotP, slotN := t.pli.slotN }

/-- R32: what a drop leaves of a channel and its slot: under AUTONOMOUS a retrieval under way, under REPORT_ONLY a
DROPPED channel and nothing commanded. -/
def DropTaken (pole : Pole) (s t : State) : Prop :=
  let c := channel t pole
  c.suspect = 0 ∧ c.good = 0 ∧ c.tRaise = none ∧
  if (channel s pole).mask = .autonomous then
    c.state = .retrieving ∧ c.lastDropActed = true ∧ c.tRetr = some (tRetr s.mge.params) ∧
      slot t pole = commanded .pullDown pole s
  else
    c.state = .dropped ∧ c.lastDropActed = false ∧ c.tRetr = (channel s pole).tRetr ∧ slot t pole = slot s pole

/-- R32, step 3: the raise that a drop asks for. -/
def dropRaise (pole : Pole) (s : State) : Instr :=
  .alarmRaise (.poleDrop pole) (decide ((channel s pole).mask = .autonomous))

/-- A channel that keeps every field but its state, counts, last sample, previous angle and T_smp, and whose slot is
kept. -/
def SlotKept (pole : Pole) (s t : State) : Prop :=
  slot t pole = slot s pole ∧ (channel t pole).lastDropActed = (channel s pole).lastDropActed

/-- R23: the events that one accepted sample hands over: SENSOR_LOST cleared in LOST, the requests of the transition,
the voltage sample and the pole report. -/
def SampleHands (pole : Pole) (x : Sample) (s t : State) (requests : List Instr) : Prop :=
  t.handed = s.handed.erase (.sampleAccepted pole x) ++
    (if (channel s pole).state = .lost then [.alarmClear (.sensorLost pole)] else []) ++ requests ++
    [.voltageSample pole x.volts,
      .poleReport pole (channel t pole).state (decide ((channel t pole).state ≠ (channel s pole).state))]

/-- Criterion (b) of R24: the previous angle is present, and the angle minus it is at or above the rate threshold. -/
def FastRise (e : ProfileEntry) (prev : Option Nat) (angle : Nat) : Prop :=
  ∃ q, prev = some q ∧ (e.rate.toNat : Int) ≤ (angle : Int) - q

/-- Criteria (a) and (c) of R24: a high angle, or contact lost outside INSULATOR and DEAD sections. -/
def Suspicious (e : ProfileEntry) (kind : SectionKind) (angle : Nat) (contact : Bool) : Prop :=
  e.drop.toNat ≤ angle ∨ (contact = false ∧ kind ≠ .insulator ∧ kind ≠ .dead)

/-- R21: the working band of a profile. -/
def InBand (e : ProfileEntry) (angle : Nat) : Prop := e.bandMin.toNat ≤ angle ∧ angle < e.drop.toNat

/-- R24: a good sample. -/
def Good (e : ProfileEntry) (prev : Option Nat) (angle : Nat) (contact : Bool) : Prop :=
  contact = true ∧ InBand e angle ∧ ¬ FastRise e prev angle

/-- A hooked pole at or below the stowed maximum. -/
def Stows (e : ProfileEntry) (angle : Nat) (hook : Bool) : Prop := hook = true ∧ angle ≤ e.stowedMax.toNat

/-- The events on which SMC evaluates the supply mode (R57). -/
def IsEvaluation (c : Instr) : Prop :=
  (∃ pole state changed, c = .poleReport pole state changed) ∨ (∃ v, c = .sectionViewAtSmc v) ∨
    ∃ pole, c = .poleDropAckReport pole

/-- R67: the events and the flag that the wireless exposure asks for, from the flag before. -/
def exposureEvents (exposed before : Bool) : List Instr :=
  if exposed = true ∧ before = false then [.alarmRaise .polesUpInWireless false]
  else if exposed = false ∧ before = true then [.alarmClear .polesUpInWireless]
  else []

/-- R72, R79, R80: CBU has stored these inputs, recomputed, and published a record that differs from the one last
published; nothing else has changed. -/
def Recomputed (c : Instr) (s t : State) (voltsP voltsN : BitVec 10) (mode : SupplyMode) (cap reservation : Nat) : Prop :=
  let r := budgetFor s.mge.params mode cap (min voltsP.toNat voltsN.toNat) reservation
  t = { s with
        cbu := { voltsP := voltsP, voltsN := voltsN, cap := cap, record := r, published := r }
        handed := s.handed.erase c ++
          (if r = s.cbu.published then [] else [.budgetRecordAtTau r, .budgetRecordAtAxs r]) }

/-- A load's record after it has left ON by the entry given (R112, R117, R121): minimum-on stopped, minimum-off started. -/
def leftOn (e : AuxEntry) (r : LoadRec) : LoadRec := { r with minOn := none, minOff := startMin e.minOff.toNat }

/-- R114, R115: the loads that one admission pass admits, walking a list from its head with the reservation as it grows:
each eligible load that fits with the margin H under the aux cap. -/
def firstFit (s : State) (reservation : Nat) : List LoadIx → List LoadIx
  | [] => []
  | i :: rest =>
    if eligible s i = true ∧ reservation + nominal s i + admitMargin s.mge.params ≤ s.axs.record.auxCap then
      i :: firstFit s (reservation + nominal s i) rest
    else firstFit s reservation rest

/-- R116, R118: what the budget and the mode ask of the loads left ON: R within the aux cap unless every ON load has
priority 0, and every ON load permitted by the mode. -/
def LoadsWithinRecord (s : State) : Prop :=
  (s.axs.reservation ≤ s.axs.record.auxCap ∨ ∀ i, (loadRec s i).state = .on → priority s i = 0) ∧
  ∀ i, (loadRec s i).state = .on →
    (s.axs.record.mode ≠ .wire → (auxEntry s i).battery = true) ∧
    (s.axs.record.mode = .dewired → priority s i ≤ keepPriority s.mge.params)

/-- R109, R81: the reservation is handed to CBU once, after the events of `base`, and only where it has changed. -/
def HandsReservation (base : List Instr) (s t : State) : Prop :=
  t.handed = base ++ (if t.axs.reservation = s.axs.reservation then [] else [.reservationAtCbu t.axs.reservation])

/-- A frame that the part builds: flags and unused bits 0, its own node address as source (R180). -/
def built (s : State) (cls : BitVec 4) (dst : Node) (payload : List Byte) : Frame :=
  { cls := cls, flags := 0, dst := dst, src := partNode s, dstHigh := 0, srcHigh := 0, payload := payload }

/-- R93: a re-clip frame with a new admitted demand, the last requested one and a limit reason. -/
def reclipOf (s : State) (new : Int) (reason : Byte) : Frame :=
  built s 1 (inverterNode s.mge.params) (signed16 new ++ signed16 s.tau.requested ++ [reason])

/-- The aux command OFF for a load, addressed to the converter node of an entry (R126). -/
def offCommand (s : State) (e : AuxEntry) (i : LoadIx) : Frame := built s 3 (e.node.setWidth 6) [loadId i, 0]

/-- The aux command ON for a load, addressed to the converter node of its active entry (R126). -/
def onCommand (s : State) (i : LoadIx) : Frame := built s 3 ((auxEntry s i).node.setWidth 6) [loadId i, 1]

/-- The payload of an AUX_STATE notice (R129, R186). -/
def auxStatePayload (i : LoadIx) (old new cause : Byte) (reservation : Nat) : List Byte :=
  [6, loadId i, old, new, cause] ++ unsigned16 reservation

/-- Notices placed one after another. -/
def placeAll (payloads : List (List Byte)) (s : State) : State := payloads.foldl (fun t p => placeNotice p t) s

/-- The parts of the state that AXS's own events may change: the load records, the waiting list, the reservation and the
admission order count, the lane 2 command slots with the hold timer, the notices and the events handed over. -/
def OnlyAux (s t : State) : Prop :=
  t = { s with axs := t.axs, dec.lanes := { s.dec.lanes with slots := t.dec.lanes.slots }, dec.tHeld := t.dec.tHeld,
               upi := t.upi, handed := t.handed } ∧
  t.axs = { s.axs with loads := t.axs.loads, joinOrder := t.axs.joinOrder, reservation := t.axs.reservation,
                       orderCount := t.axs.orderCount }

/-- The summed nominal currents of some loads. -/
def nominalSum (s : State) (l : List LoadIx) : Nat := (l.map (nominal s)).sum

/-- The notices of an admission pass, each with the reservation after its admission (R115, R129). -/
def admitNotices (s : State) (reservation : Nat) : List LoadIx → List (List Byte)
  | [] => []
  | i :: rest =>
    auxStatePayload i (loadStateCode (loadRec s i).state) 2 3 (reservation + nominal s i) ::
      admitNotices s (reservation + nominal s i) rest

/-- R113 to R115: `t` is `s` after an admission pass over the waiting list. The loads of `firstFit` leave the list and
are ON with the next admission orders, their minimum-on timers started, their nominal currents reserved, an ON command
in their slots and their notices placed; every other load is as it was. -/
def Passed (s t : State) : Prop :=
  let l := firstFit s s.axs.reservation (waitingList s)
  (∀ j, loadRec t j = if j ∈ l then
      { loadRec s j with
        state := .on
        joined := none
        admitted := some s.ms
        order := some (s.axs.orderCount + l.idxOf j + 1)
        minOn := startMin (auxEntry s j).minOn.toNat }
    else loadRec s j) ∧
  t.axs.joinOrder = s.axs.joinOrder.filter (fun j => decide (j ∉ l)) ∧
  t.axs.reservation = s.axs.reservation + nominalSum s l ∧ t.axs.orderCount = s.axs.orderCount + l.length ∧
  t.dec.lanes.slots = s.dec.lanes.slots.filter (fun x => decide (x.1 ∉ l)) ++ l.map (fun j => (j, onCommand s j)) ∧
  t.upi = (placeAll (admitNotices s s.axs.reservation l) s).upi ∧ OnlyAux s t ∧ t.handed = s.handed

/-- An admission pass from `s0`, and the reservation handed over where it differs from that of `s`. -/
def PassedAndHanded (s s0 t : State) : Prop :=
  Passed s0 { t with handed := s0.handed } ∧ HandsReservation s0.handed s t

/-- One sweep of a budget shed (R116): from the reservation given, the loads shed in order while it is above the aux
cap, those that `skip` names left alone. -/
def shedSweep (s : State) (skip : LoadIx → Bool) (reservation : Nat) : List LoadIx → List LoadIx
  | [] => []
  | i :: rest =>
    if s.axs.record.auxCap < reservation ∧ skip i = false then
      i :: shedSweep s skip (reservation - nominal s i) rest
    else shedSweep s skip reservation rest

/-- R116, R118: the loads that a forced exclusion (cause 5) and then the two sweeps of a budget shed (cause 4) shed, in
order: first those whose minimum-on timer is stopped, then the rest, none of priority 0. -/
def shedPlan (s : State) : List (LoadIx × Byte) :=
  let out := if s.axs.record.mode = .wire then [] else (onLoads s).filter (fun i => !permitted s i)
  let candidates := (onLoads s).filter (fun i => decide (i ∉ out ∧ 0 < priority s i))
  let left := s.axs.reservation - nominalSum s out
  let first := shedSweep s (fun i => (loadRec s i).minOn.isSome) left candidates
  let second := shedSweep s (fun i => decide (i ∈ first)) (left - nominalSum s first) candidates
  out.map (fun i => (i, 5)) ++ (first ++ second).map (fun i => (i, 4))

/-- The notices of a shed, each with the reservation after it (R117, R129). -/
def shedNotices (reservation : Nat) (s : State) : List (LoadIx × Byte) → List (List Byte)
  | [] => []
  | (i, cause) :: rest =>
    auxStatePayload i 2 3 cause (reservation - nominal s i) :: shedNotices (reservation - nominal s i) s rest

/-- R117: `t` is `s` after the loads of a plan are shed in order: each is SHED with its minimum-on timer stopped and its
minimum-off timer started, joins the waiting list, gives back its nominal current and has an OFF command in its slot and
its notice placed; every other load is as it was. -/
def ShedBy (plan : List (LoadIx × Byte)) (s t : State) : Prop :=
  let l := plan.map Prod.fst
  (∀ j, loadRec t j = if j ∈ l then
      { leftOn (auxEntry s j) (loadRec s j) with state := .shed, joined := some s.ms }
    else loadRec s j) ∧
  t.axs.joinOrder = s.axs.joinOrder ++ l ∧ t.axs.reservation = s.axs.reservation - nominalSum s l ∧
  t.axs.orderCount = s.axs.orderCount ∧
  t.dec.lanes.slots = s.dec.lanes.slots.filter (fun x => decide (x.1 ∉ l)) ++
    l.map (fun j => (j, offCommand s (auxEntry s j) j)) ∧
  t.upi = (placeAll (shedNotices s.axs.reservation s plan) s).upi ∧ OnlyAux s t ∧ t.handed = s.handed

/-- R128, step 2: the record of a load whose entry has become invalid, by its old entry: OFF and not requested, out of the
waiting list, and after ON with its minimum-on timer stopped and its minimum-off timer started. -/
def retiredRec (old : AuxEntry) (r : LoadRec) : LoadRec :=
  { (if r.state = .on then leftOn old r else r) with state := .off, requested := false, joined := none }

/-- R128, step 2, R129: the TABLE_COMMIT notices of the loads given, each that was not OFF having one, with R after the old
nominal current of an ON load is released (log entry 13). -/
def retireNotices (old : AuxTable) (s : State) (reservation : Nat) : List LoadIx → List (List Byte)
  | [] => []
  | i :: rest =>
    let left := if (loadRec s i).state = .on then reservation - old[i].nominal.toNat else reservation
    (if (loadRec s i).state = .off then [] else
      [auxStatePayload i (loadStateCode (loadRec s i).state) 0 8 left]) ++ retireNotices old s left rest

/-- R128, steps 2 and 3: `t` is `s`, whose aux table has just become active in place of `old`, after every load whose entry
is now invalid has gone OFF, in load ID order (log entry 24), an ON one with an OFF command to its old converter node in
its slot, each with its notice; and R is the sum of the new nominal currents of the loads still ON. Every other load is as
it was. -/
def RetiredBy (old : AuxTable) (s t : State) : Prop :=
  let out := (List.finRange 16).filter (fun i => !(auxEntry s i).valid)
  let ons := out.filter (fun i => decide ((loadRec s i).state = .on))
  (∀ j, loadRec t j = if j ∈ out then retiredRec old[j] (loadRec s j) else loadRec s j) ∧
  t.axs.joinOrder = s.axs.joinOrder.filter (fun j => decide (j ∉ out)) ∧
  t.axs.reservation = onSum t ∧ t.axs.orderCount = s.axs.orderCount ∧
  t.dec.lanes.slots = s.dec.lanes.slots.filter (fun x => decide (x.1 ∉ ons)) ++
    ons.map (fun j => (j, offCommand s old[j] j)) ∧
  t.upi = (placeAll (retireNotices old s s.axs.reservation out) s).upi ∧ OnlyAux s t ∧ t.handed = s.handed

/-- The ALARM frame of an event with a record (R142, R185). -/
def alarmFrame (s : State) (event : Byte) (r : AlarmRec) : Frame := built s 8 0 (event :: alarmRecordBytes r)

/-- The report to SMC that the acknowledgement or removal of a key's record makes (R141). -/
def dropReport : AlarmKey → List Instr
  | .poleDrop pole => [.poleDropAckReport pole]
  | _ => []

/-! ### Layouts -/

/-- The number that a run of bytes carries, most significant byte first. -/
def bigEndian (bytes : List Byte) : Nat := bytes.foldl (fun acc b => acc * 256 + b.toNat) 0

/-- The bytes are these fields one after another and nothing else: each field is its width in bytes and the number that it
carries, reduced to the width. -/
def Carries (bytes : List Byte) : List (Nat × Nat) → Prop
  | [] => bytes = []
  | (width, v) :: rest =>
    width ≤ bytes.length ∧ bigEndian (bytes.take width) = v % 256 ^ width ∧ Carries (bytes.drop width) rest

/-- A flags byte with these flags in bits 0, 1, … (R183). -/
def flagField (flags : List Bool) : Nat × Nat := (1, flags.foldr (fun b acc => acc * 2 + b.toNat) 0)

/-- A signed current in two bytes, two's complement (R183). -/
def signedField (i : Int) : Nat × Nat := (2, (i % 65536).toNat)

/-- R187: the fields of READ_IDENT. -/
def identLayout (s : State) : List (Nat × Nat) :=
  [(2, 0x31C4), (2, 0x0412), (1, 1), (1, 40 + s.strap.toNat), (1, 128), (1, 16), (1, 4), (1, 27), (1, 5)]

/-- R187: a channel block. -/
def channelLayout (c : Channel) : List (Nat × Nat) :=
  [(1, (poleStateCode c.state).toNat), (1, (actMaskCode c.mask).toNat),
    flagField [c.prevAngle.isSome, c.last.isSome, c.lastDropActed, c.tSmp.isSome, c.tRaise.isSome, c.tRetr.isSome],
    (2, c.prevAngle.getD 0), (1, c.suspect), (1, c.good)] ++
  match c.last with
  | none => [(1, 0), (2, 0), (1, 0), (2, 0)]
  | some x => [(1, x.seq.toNat), (2, x.angle), flagField [x.contact, x.hook], (2, x.volts.toNat)]

/-- R186: the view-and-position block. -/
def viewLayout (s : State) : List (Nat × Nat) :=
  [(1, (sectionKindCode s.sct.view.kind).toNat), (2, s.sct.view.cap), (1, s.sct.view.profile), (2, s.sct.view.id),
    flagField [s.sct.view.known, s.sct.position.isSome]] ++
  (match s.sct.position with
    | none => [(1, 255), (2, 0)]
    | some (route, c) => [(1, route.toNat), (2, c.toNat)]) ++
  [(1, match s.sct.matched with | none => 255 | some i => i.val)]

/-- R187: the fields of READ_STATE. -/
def stateLayout (s : State) : List (Nat × Nat) :=
  let b := s.cbu.record
  [(1, (modeCode s.smc.mode).toNat), (1, (subkindCode s.smc.mode).toNat),
    (1, (modeCode b.mode).toNat), (1, (subkindCode b.mode).toNat), (2, b.supply), (2, b.auxCap), (2, b.motoring),
    (2, b.regen), (2, b.reservation)] ++
  channelLayout s.pwu.chP ++ channelLayout s.pwu.chN ++ viewLayout s ++
  [flagField [s.sct.pendingTbl.isSome, s.mge.lock], (2, s.axs.reservation), signedField s.tau.admitted] ++
  match s.mge.openTable with
  | none => [(1, 255), (1, 0)]
  | some o => [(1, (tableCode o.table).toNat), (1, o.owner.toNat)]

/-- R187: a load block. -/
def loadLayout (r : LoadRec) : List (Nat × Nat) :=
  [(1, (loadStateCode r.state).toNat),
    flagField [r.requested, r.running.isSome, r.running.getD false, r.minOn.isSome, r.minOff.isSome, r.admitted.isSome,
      r.joined.isSome],
    (4, (r.admitted.getD 0).toNat), (4, (r.joined.getD 0).toNat)]

/-- R187: the fields of READ_LOADS: the blocks of loads 1 to 16, and the waiting list with its length, head first. -/
def loadsLayout (s : State) : List (Nat × Nat) :=
  (List.finRange 16).flatMap (fun i => loadLayout (loadRec s i)) ++ [(1, s.axs.joinOrder.length)] ++
  (waitingList s).map (fun i => (1, i.val + 1))

/-- R185: an alarm record. -/
def recordLayout (r : AlarmRec) : List (Nat × Nat) :=
  [(1, (alarmKeyCode r.key).toNat), (1, (alarmStateCode r.state).toNat),
    flagField [r.acted.isSome, r.acted.getD false, r.sectionId.isSome, r.chainage.isSome],
    (4, r.first.toNat), (4, r.last.toNat), (1, r.repeats), (2, r.sectionId.getD 0), (2, (r.chainage.getD 0).toNat),
    (2, r.volts)]

/-- R187: the fields of READ_ALARMS. -/
def alarmsLayout (s : State) : List (Nat × Nat) := (1, s.alm.length) :: s.alm.flatMap recordLayout

/-- R187: an error record as READ_ERRORS reports it. -/
def errLayout (e : ErrRec) : List (Nat × Nat) := [(1, (lastErrorCode e.last).toNat), (1, e.flags.toNat)]

/-- R188: an entry of a table's active copy. -/
def entryLayout (table : TableId) (index : Nat) (s : State) : List (Nat × Nat) :=
  match table with
  | .sections => (s.sct.active[index]?.map fun e =>
      [flagField [e.valid], (2, e.id.toNat), (1, e.route.toNat), (2, e.start.toNat), (2, e.stop.toNat),
        (1, e.kind.toNat), (2, e.cap.toNat), (1, e.profile.toNat)]).getD []
  | .aux => (s.axs.active[index]?.map fun e =>
      [flagField [e.valid], (1, e.node.toNat), (1, e.nominal.toNat), (1, e.priority.toNat), (2, e.minOn.toNat),
        (2, e.minOff.toNat), flagField [e.battery]]).getD []
  | .profile => (s.pwu.active[index]?.map fun e =>
      [(2, e.drop.toNat), (1, e.rate.toNat), (1, e.confirm.toNat), (2, e.stowedMax.toNat),
        (2, e.bandMin.toNat)]).getD []
  | .parameter => (s.mge.params[index]?.map fun v => [(2, v.toNat)]).getD []
  | .classMap => (s.dec.classMap[index]?.map fun c => [(1, c.toNat)]).getD []

/-- R189: the codes of the names that frames, records and responses carry. -/
def CodesAsListed : Prop :=
  [.live, .frog, .insulator, .dead, .wireless].map sectionKindCode = [0, 1, 2, 3, 4] ∧
  [.unresolved, .wire, .gap .insulator, .gap .dead, .noLine, .battery, .dewired].map modeCode = [0, 1, 2, 2, 3, 4, 5] ∧
  [.unresolved, .wire, .gap .insulator, .gap .dead, .noLine, .battery, .dewired].map subkindCode =
    [0, 0, 1, 2, 0, 0, 0] ∧
  [.unknown, .stowed, .raising, .onWire, .suspect, .dropped, .retrieving, .lowering, .lost].map poleStateCode =
    [0, 1, 2, 3, 4, 5, 6, 7, 8] ∧
  [.autonomous, .reportOnly].map actMaskCode = [0, 1] ∧ [.p, .n].map poleCode = [1, 2] ∧
  [.none, .step, .budget, .regen, .mode].map reasonCode = [0, 1, 2, 3, 4] ∧
  [.dewired, .unresolved, .restart].map cutCauseCode = [1, 2, 3] ∧
  [.off, .waiting, .on, .shed, .fault].map loadStateCode = [0, 1, 2, 3, 4] ∧
  [.requestOn, .requestOff, .admitted, .budgetShed, .excluded, .converterFault, .faultCleared, .tableCommit].map
    auxCauseCode = [1, 2, 3, 4, 5, 6, 7, 8] ∧
  [.poleDrop .p, .poleDrop .n, .retrieveFail .p, .retrieveFail .n, .sensorLost .p, .sensorLost .n, .cutUnconfirmed,
    .polesUpInWireless, .driveLinkHeld, .poleLineFault, .noLine, .positionLost].map alarmKeyCode =
    [1, 2, 3, 4, 5, 6, 7, 8, 9, 10, 11, 12] ∧
  [.raisedUnacked, .raisedAcked, .clearedUnacked].map alarmStateCode = [1, 2, 3] ∧
  [.raised, .repeated, .cleared, .acknowledged, .removed].map alarmEventCode = [1, 2, 3, 4, 5] ∧
  [.ok, .deferred, .busy, .locked, .notOpen, .notOwner, .badIndex, .badField, .invalidTable, .wrongSection, .unknownKey,
    .unknownRequest].map statusCode = [0, 1, 2, 3, 4, 5, 6, 7, 8, 9, 10, 11] ∧
  [none, some .checkFailed, some .length, some .classRefused, some .laneFull, some .badField, some .noAck].map
    lastErrorCode = [0, 1, 2, 3, 4, 5, 6] ∧
  [.request, .timeout, .lock].map abandonCauseCode = [1, 2, 3] ∧
  [.sections, .aux, .profile, .parameter, .classMap].map tableCode = [0, 1, 2, 3, 4]

/-- R182: the bytes of a Port S frame, of at most 15 payload bytes. -/
def lineWire (f : LineFrame) : List Byte :=
  let body : List Byte := [(f.priority ++ f.source ++ f.kind : BitVec 8),
    (f.dst ++ BitVec.ofNat 4 f.payload.length : BitVec 8)] ++ f.payload
  body ++ be16 (crc16 body)

/-- A request that MGE takes now and that finds no other COMPLETE entry in its way: MGE is free, a response entry is
unoccupied, and the queue either holds it as its earliest COMPLETE entry or holds no COMPLETE entry (R164). The state
is the one the request is executed in. -/
def Taken (code : ReqCode) (q : Request) (s s1 : State) : Prop :=
  takeRequest (reqCodeNum code :: q.args) q s = some s1

/-- The command of a request (R187). -/
def requestCmd : ReqCode → Request → Instr
  | .readIdent, q => .readIdent q
  | .readState, q => .readState q
  | .readLoads, q => .readLoads q
  | .readAlarms, q => .readAlarms q
  | .ackAlarm, q => .ackAlarm q
  | .poleRaise, q => .poleRaise q
  | .poleLower, q => .poleLower q
  | .setActMask, q => .setActMask q
  | .tableOpen, q => .tableOpen q
  | .tableWrite, q => .tableWrite q
  | .tableRead, q => .tableRead q
  | .tableCommit, q => .tableCommit q
  | .tableAbandon, q => .tableAbandon q
  | .lockSettings, q => .lockSettings q
  | .readErrors, q => .readErrors q
  | .restart, q => .restart q

/-- A request that is taken is answered with this status and these fields, in the state `after` its own effects
(R164, R187). -/
def Answered (code : ReqCode) (q : Request) (s : State) (status : Status) (fields : List Byte) (after : State) : Prop :=
  exec (requestCmd code q) s =
    .next (respond q.source (reqCodeNum code) { status := status, fields := fields } after)

/-- R170, steps 5 and 6, for the table of these entries: a write by the owner within the table is refused whole where
one entry is refused; otherwise the shadow copy holds its entries from the start index onward, and T_open restarts. -/
def Written {α : Type} {n : Nat} (table : TableId) (bytes : α → List Byte) (refused : α → Bool)
    (shadow : State → Option (Vector α n)) (put : Vector α n → State → State) : Prop :=
  ∀ (q : Request) (o : OpenTable) (start count : Byte) (es : List α) (old : Vector α n) (s s1 : State),
    q.overLength = false → Taken .tableWrite q s s1 → s.mge.openTable = some o → o.table = table →
    o.owner = q.source → count.toNat = es.length → 1 ≤ es.length → es.length ≤ 8 → start.toNat + es.length ≤ n →
    q.args = tableCode table :: start :: count :: es.flatMap bytes → shadow s = some old →
    ((∃ e ∈ es, refused e = true) → Answered .tableWrite q s .badField [] s1) ∧
    ((∀ e ∈ es, refused e = false) → ∃ new : Vector α n,
      (∀ j : Fin n, some new[j] =
        if start.toNat ≤ j.val ∧ j.val < start.toNat + es.length then es[j.val - start.toNat]? else some old[j]) ∧
      Answered .tableWrite q s .ok [] (put new { s1 with
        mge.openTable := some { o with tOpen := tOpen s.mge.params } }))

end Sys2Proof.Machine
end

