-- ==== Sys2Proof/Certificates/Slice0/Obligations.lean ====
section
/-! DEFINITION. The statements for the provers. Each says for which commands and states `exec` answers a next state and
what that state holds; `t = { s with … }` over the fields of `t` itself is a frame: every field not named is unchanged.
An event that one block hands to another is put at the end of `handed`, and is taken out of it as it is executed (log
entry 1: the model's form of the handing over that the rules state). A request is executed in the state that MGE's
taking of it leaves (`Taken`, log entry 4). SMC reads the view last published, CBU the cap it has stored, PWU the view it
has recorded (log entry 5). -/

open Sys2Proof Sys2Proof.Machine

/-! ### The queue and the step -/

/-- Spec 95: a step is one whole command, taken from the front of the queue. -/
def Obligations.StepRunsFrontCommand : Prop :=
  ∀ (c : Instr) (rest : List Instr) (s : State), s.pending = c :: rest →
    step s = exec c { s with pending := rest }

/-- Spec 95: every command has an outcome in every state, and none touches the queue, the strap pins, what is
found on the ports or, apart from power-on reset, the millisecond count (R133). Every step answers a next state and takes one command off the queue. An
event that cannot occur in a state changes nothing (log entry 3). -/
def Obligations.EveryCommandCompletes : Prop :=
  (∀ (c : Instr) (s : State), ∃ t, exec c s = .next t ∧ t.pending = s.pending ∧ t.strap = s.strap ∧
    t.found = s.found ∧ (c ≠ .powerOnReset → t.ms = s.ms)) ∧
  (∀ s : State, ∃ t, step s = .next t ∧ t.pending = s.pending.tail) ∧
  ∀ (s : State) (c : Instr),
    (c = .tPosExpiry ∧ s.sct.tPos = none) ∨ (c = .noLineTimerExpiry ∧ s.smc.noLine = none) ∨
      (c = .tStaleExpiry ∧ s.tau.tStale = none) ∨ (c = .tCutExpiry ∧ s.tau.tCut = none) ∨
      (c = .holdTimerExpiry ∧ s.dec.tHeld = none) ∨ (c = .tOpenExpiry ∧ s.mge.openTable = none) ∨
      (∃ pole, (c = .tSmpExpiry pole ∧ (channel s pole).tSmp = none) ∨
        (c = .tRaiseExpiry pole ∧ (channel s pole).tRaise = none) ∨
        (c = .tRetrExpiry pole ∧ (channel s pole).tRetr = none) ∨
        (c = .tCmdExpiry pole ∧ (slot s pole).tCmd = none)) ∨
      (∃ i, c = .minOffExpiry i ∧ (loadRec s i).minOff = none) ∨
      (∃ source, c = .tSegExpiry source ∧ ∀ e ∈ s.mge.queue, assemblingOf source e = false) ∨
      (c = .commandTxStart ∧ (s.pli.sending ≠ none ∨ s.pli.lineBusy = true)) ∨
      ((c = .arbitrationLost ∨ ∃ a, c = .commandTxEnd a) ∧ s.pli.sending = none) ∨
      (c = .holdStart ∧ s.dec.held = true) ∨ (c = .holdEnd ∧ s.dec.held = false) ∨
      (c = .portDTxEnd ∧ s.dec.sending = none) ∨ (c = .upstreamTxEnd ∧ s.upi.sending = none) →
    exec c s = .next s

/-! ### The Section Tracker -/

/-- R3: a position frame of another payload length, or with route tag 255, is ignored with BAD_FIELD on Port U. R4, R6
with no section commit pending: the position and its match are recorded, T_pos restarts, POSITION_LOST is asked to clear
where it is raised (log entry 9), and a view that differs is published with its notice. -/
def Obligations.PositionFrameJudged : Prop :=
  (∀ (f : Frame) (s : State), f.payload.length ≠ 3 ∨ f.payload[0]? = some 255 →
    exec (.positionFrame f) s = .next { s with
      handed := s.handed.erase (.positionFrame f)
      upi.err := tookCode s.upi.err .badField 4 }) ∧
  ∀ (f : Frame) (route hi lo : Byte) (s : State),
    f.payload = [route, hi, lo] → route ≠ 255 → s.sct.pendingTbl = none →
    let c : Half := hi ++ lo
    let m := lookupSection s.sct.active route c
    let v := viewOfMatch s.mge.params s.sct.active m
    let s1 := { s with handed := s.handed.erase (.positionFrame f) }
    ∃ t, exec (.positionFrame f) s = .next t ∧
      t.sct = { s.sct with position := some (route, c), matched := m, view := v,
                           tPos := some (tPos s.mge.params) } ∧
      t.handed = s1.handed ++ (if positionLostRaised s1 then [.alarmClear .positionLost] else []) ++
        (if v = s.sct.view then [] else [.sectionViewAtSmc v, .sectionViewAtCbu v, .sectionViewAtPwu v]) ∧
      t.upi = (if v = s.sct.view then s else placeNotice (1 :: viewBlock v (some (route, c)) m) s).upi ∧
      t = { s with sct := t.sct, handed := t.handed, upi := t.upi }

/-- R5: in a validated table the match is the route's own entry that covers the chainage, or else the all-routes entry
that does, or none, which gives the default section with the position known. -/
def Obligations.LookupPrefersRouteEntry : Prop :=
  ∀ (t : SectionTable) (route : Byte) (c : Half), firstBadSection t = none →
    (∀ i : Fin 128, lookupSection t route c = some i ↔
      Covers t[i] route c ∨ (Covers t[i] 255 c ∧ ∀ j : Fin 128, ¬ Covers t[j] route c)) ∧
    (lookupSection t route c = none ↔ ∀ i : Fin 128, ¬ Covers t[i] route c ∧ ¬ Covers t[i] 255 c) ∧
    ∀ params, viewOfMatch params t none =
      { kind := .live, cap := defaultCap params, profile := 0, id := 0, known := true }

/-- R13, R127, R22, R175, R174, R157: the commit walk of each of the five tables passes its shadow copy exactly when no entry
fails on any ground of its rule, and otherwise names the first index that fails. The node of an aux entry is the low six
bits of its byte (log entry 21). -/
def Obligations.TableWalksNameFirstFailure : Prop :=
  ∀ s : State,
    (∀ t, s.sct.shadow = some t →
      firstBad .sections s = firstBadSection t ∧ NamesFirstFailure (firstBadSection t) (SectionFails t)) ∧
    (∀ t : AuxTable, s.axs.shadow = some t →
      NamesFirstFailure (firstBad .aux s) (fun j : Fin 16 => AuxFails (partNode s) t[j])) ∧
    (∀ t : ProfileTable, s.pwu.shadow = some t →
      NamesFirstFailure (firstBad .profile s) (fun j : Fin 4 => ProfileFails t[j])) ∧
    (∀ t : ParamTable, s.mge.shadow = some t →
      NamesFirstFailure (firstBad .parameter s) (ParamFails (partNode s) t)) ∧
    (∀ t : ClassMap, s.dec.shadow = some t →
      NamesFirstFailure (firstBad .classMap s) (fun j : Fin 5 => t[j] ≠ 0 ∧ t[j] ≠ 1 ∧ t[j] ≠ 2))

/-- R4, R16, R7: with a commit pending, a position whose view in the old table is a gap leaves it pending; any other view
swaps the pending table in, places TABLE_COMMITTED, and only the view of the new table is published. POSITION_LOST is asked
to clear first, where it is raised (R4, step 3; log entry 9). -/
def Obligations.PositionEndsDeferral : Prop :=
  ∀ (f : Frame) (route hi lo : Byte) (new : SectionTable) (s : State),
    f.payload = [route, hi, lo] → route ≠ 255 → s.sct.pendingTbl = some new →
    let c : Half := hi ++ lo
    let gap := isGap (viewOfMatch s.mge.params s.sct.active (lookupSection s.sct.active route c)).kind
    let table := if gap then s.sct.active else new
    let m := lookupSection table route c
    let v := viewOfMatch s.mge.params table m
    let s1 := if gap then s else placeNotice [2, 0] s
    let taken := { s with handed := s.handed.erase (.positionFrame f) }
    ∃ t, exec (.positionFrame f) s = .next t ∧
      t.sct = { s.sct with active := table, pendingTbl := if gap then some new else none,
                           position := some (route, c), matched := m, view := v,
                           tPos := some (tPos s.mge.params) } ∧
      t.handed = taken.handed ++ (if positionLostRaised taken then [.alarmClear .positionLost] else []) ++
        (if v = s.sct.view then [] else [.sectionViewAtSmc v, .sectionViewAtCbu v, .sectionViewAtPwu v]) ∧
      t.upi = (if v = s.sct.view then s1 else placeNotice (1 :: viewBlock v (some (route, c)) m) s1).upi ∧
      t = { s with sct := t.sct, handed := t.handed, upi := t.upi }

/-- R9, R16: on the expiry of T_pos the position becomes unknown, a pending table is swapped in with its notice, the
unknown default section is published where it differs, and POSITION_LOST is raised last. R8: a parameter commit gives the
default section its new cap and publishes it where it differs; a matched view is unchanged. -/
def Obligations.PositionLostAndDefaultCap : Prop :=
  (∀ (n : Nat) (s : State), s.sct.tPos = some n →
    let v : View := { kind := .live, cap := defaultCap s.mge.params, profile := 0, id := 0, known := false }
    let s1 := if s.sct.pendingTbl.isSome then placeNotice [2, 0] s else s
    ∃ t, exec .tPosExpiry s = .next t ∧
      t.sct = { s.sct with active := s.sct.pendingTbl.getD s.sct.active, pendingTbl := none, position := none,
                           matched := none, view := v, tPos := none } ∧
      t.handed = s.handed ++
        (if v = s.sct.view then [] else [.sectionViewAtSmc v, .sectionViewAtCbu v, .sectionViewAtPwu v]) ++
        [.alarmRaise .positionLost false] ∧
      t.upi = (if v = s.sct.view then s1 else placeNotice (1 :: viewBlock v none none) s1).upi ∧
      t = { s with sct := t.sct, handed := t.handed, upi := t.upi }) ∧
  ∀ s : State,
    let v := { s.sct.view with cap := defaultCap s.mge.params }
    let s1 := { s with handed := s.handed.erase .sctParameterCommit }
    (s.sct.view.id ≠ 0 ∨ s.sct.view.cap = defaultCap s.mge.params → exec .sctParameterCommit s = .next s1) ∧
    (s.sct.view.id = 0 → s.sct.view.cap ≠ defaultCap s.mge.params →
      exec .sctParameterCommit s = .next { s1 with
        sct.view := v
        handed := s1.handed ++ [.sectionViewAtSmc v, .sectionViewAtCbu v, .sectionViewAtPwu v]
        upi := (placeNotice (1 :: viewBlock v s.sct.position s.sct.matched) s).upi })

/-! ### The Pole Watch Unit -/

/-- R23: every accepted sample is stored with its angle bounded at 900, restarts T_smp, becomes the previous angle, and
hands over the voltage and the pole report last; the act mask, the other pole and every other block are unchanged. -/
def Obligations.SampleIsStored : Prop :=
  ∀ (pole : Pole) (x : Sample) (s : State), ∃ t, exec (.sampleAccepted pole x) s = .next t ∧
    (channel t pole).last = some { seq := x.seq, angle := min x.angle.toNat 900, contact := x.contact,
                                   hook := x.hook, volts := x.volts } ∧
    (channel t pole).prevAngle = some (min x.angle.toNat 900) ∧
    (channel t pole).tSmp = some (tSmp s.mge.params) ∧
    (channel t pole).mask = (channel s pole).mask ∧
    (∃ requests, SampleHands pole x s t requests) ∧
    OnlyPole pole s t ∧ t = { s with pwu := t.pwu, pli := t.pli, handed := t.handed }

/-- R25, R32: an UNKNOWN or LOST channel resolves to STOWED, to ON_WIRE, or to a drop. -/
def Obligations.SampleResolvesChannel : Prop :=
  ∀ (pole : Pole) (x : Sample) (s : State),
    (channel s pole).state = .unknown ∨ (channel s pole).state = .lost →
    let e := activeProfile s
    let a := min x.angle.toNat 900
    ∃ t, exec (.sampleAccepted pole x) s = .next t ∧
      (Stows e a x.hook → (channel t pole).state = .stowed ∧ SlotKept pole s t ∧
        SampleHands pole x s t [.alarmClear (.poleDrop pole), .alarmClear (.retrieveFail pole)]) ∧
      (¬ Stows e a x.hook → InBand e a → x.contact = true →
        (channel t pole).state = .onWire ∧ (channel t pole).suspect = 0 ∧ SlotKept pole s t ∧
        SampleHands pole x s t [.alarmClear (.poleDrop pole)]) ∧
      (¬ Stows e a x.hook → ¬ (InBand e a ∧ x.contact = true) →
        DropTaken pole s t ∧ SampleHands pole x s t [dropRaise pole s])

/-- R26, R31: a STOWED pole drops only when its hook opens above the stowed maximum; a RETRIEVING or LOWERING pole ends
on its hook with HOLD, and any other sample leaves it with T_retr running. -/
def Obligations.SampleOfLoweredPole : Prop :=
  ∀ (pole : Pole) (x : Sample) (s : State),
    let e := activeProfile s
    let a := min x.angle.toNat 900
    ((channel s pole).state = .stowed →
      ∃ t, exec (.sampleAccepted pole x) s = .next t ∧
        (x.hook = true ∨ a ≤ e.stowedMax.toNat →
          (channel t pole).state = .stowed ∧ SlotKept pole s t ∧ SampleHands pole x s t []) ∧
        (x.hook = false → e.stowedMax.toNat < a →
          DropTaken pole s t ∧ SampleHands pole x s t [dropRaise pole s])) ∧
    ((channel s pole).state = .retrieving ∨ (channel s pole).state = .lowering →
      ∃ t, exec (.sampleAccepted pole x) s = .next t ∧
        (Stows e a x.hook →
          (channel t pole).state = .stowed ∧ (channel t pole).tRetr = none ∧ slot t pole = commanded .hold pole s ∧
          SampleHands pole x s t [.alarmClear (.poleDrop pole), .alarmClear (.retrieveFail pole)]) ∧
        (¬ Stows e a x.hook →
          (channel t pole).state = (channel s pole).state ∧ (channel t pole).tRetr = (channel s pole).tRetr ∧
          SlotKept pole s t ∧ SampleHands pole x s t []))

/-- R27, R28, R32: on the wire, a fast rise drops at once, K consecutive suspect samples drop, fewer make SUSPECT, and
a clean sample ends the run. -/
def Obligations.SampleOnWire : Prop :=
  ∀ (pole : Pole) (x : Sample) (s : State),
    (channel s pole).state = .onWire ∨ (channel s pole).state = .suspect →
    let e := activeProfile s
    let a := min x.angle.toNat 900
    let run := if (channel s pole).state = .suspect then (channel s pole).suspect + 1 else 1
    let fast := FastRise e (channel s pole).prevAngle a
    let bad := Suspicious e s.pwu.view.kind a x.contact
    ∃ t, exec (.sampleAccepted pole x) s = .next t ∧
      (fast ∨ (bad ∧ e.confirm.toNat ≤ run) → DropTaken pole s t ∧ SampleHands pole x s t [dropRaise pole s]) ∧
      (¬ fast → bad → run < e.confirm.toNat →
        (channel t pole).state = .suspect ∧ (channel t pole).suspect = run ∧ SlotKept pole s t ∧
        SampleHands pole x s t []) ∧
      (¬ fast → ¬ bad → (channel t pole).state = .onWire ∧ (channel t pole).suspect = 0 ∧ SlotKept pole s t ∧
        SampleHands pole x s t [])

/-- R29, R30: a RAISING pole drops on a high angle or a fast rise; it, and a DROPPED pole under REPORT_ONLY, come onto the
wire after K consecutive good samples; a DROPPED pole brought onto its hook is STOWED. -/
def Obligations.SampleOffWire : Prop :=
  ∀ (pole : Pole) (x : Sample) (s : State),
    let e := activeProfile s
    let a := min x.angle.toNat 900
    let c := channel s pole
    let fast := FastRise e c.prevAngle a
    let good := Good e c.prevAngle a x.contact
    (c.state = .raising →
      ∃ t, exec (.sampleAccepted pole x) s = .next t ∧
        (e.drop.toNat ≤ a ∨ fast → DropTaken pole s t ∧ SampleHands pole x s t [dropRaise pole s]) ∧
        (good → e.confirm.toNat ≤ c.good + 1 →
          (channel t pole).state = .onWire ∧ (channel t pole).good = 0 ∧ (channel t pole).suspect = 0 ∧
          (channel t pole).tRaise = none ∧ SlotKept pole s t ∧
          SampleHands pole x s t [.alarmClear (.poleDrop pole)]) ∧
        (¬ (e.drop.toNat ≤ a ∨ fast) → ¬ (good ∧ e.confirm.toNat ≤ c.good + 1) →
          (channel t pole).state = .raising ∧ (good → (channel t pole).good = c.good + 1) ∧
          (¬ good → (channel t pole).good = 0) ∧ (channel t pole).tRaise = c.tRaise ∧ SlotKept pole s t ∧
          SampleHands pole x s t [])) ∧
    (c.state = .dropped → c.mask = .reportOnly →
      ∃ t, exec (.sampleAccepted pole x) s = .next t ∧ SlotKept pole s t ∧
        (good → e.confirm.toNat ≤ c.good + 1 →
          (channel t pole).state = .onWire ∧ (channel t pole).good = 0 ∧ (channel t pole).suspect = 0 ∧
          SampleHands pole x s t [.alarmClear (.poleDrop pole)]) ∧
        (good → c.good + 1 < e.confirm.toNat →
          (channel t pole).state = .dropped ∧ (channel t pole).good = c.good + 1 ∧ SampleHands pole x s t []) ∧
        (¬ good → Stows e a x.hook →
          (channel t pole).state = .stowed ∧ (channel t pole).good = 0 ∧
          SampleHands pole x s t [.alarmClear (.poleDrop pole)]) ∧
        (¬ good → ¬ Stows e a x.hook →
          (channel t pole).state = .dropped ∧ (channel t pole).good = 0 ∧ SampleHands pole x s t []))

/-- R36: T_smp expires into LOST. R37: T_raise expires into LOWERING with PULL_DOWN and a RAISE_FAILED notice. R38: T_retr
expires into RETRIEVE_FAIL, PULL_DOWN again and T_retr restarted. R40: PWU records a published view, and nothing else. What is
handed over stands in `handed` in the model's form (log entry 1). -/
def Obligations.PoleTimersAndView : Prop :=
  ∀ (pole : Pole) (n : Nat) (s : State),
    let c := channel s pole
    (c.tSmp = some n → ∃ t, exec (.tSmpExpiry pole) s = .next t ∧
      channel t pole = { c with state := .lost, prevAngle := none, suspect := 0, good := 0, tSmp := none,
                                tRaise := none, tRetr := none } ∧
      slot t pole = slot s pole ∧ OnlyPole pole s t ∧
      t.handed = s.handed ++ [.alarmRaise (.sensorLost pole) false,
        .poleReport pole .lost (decide (c.state ≠ .lost))] ∧
      t = { s with pwu := t.pwu, handed := t.handed }) ∧
    (c.tRaise = some n → ∃ t, exec (.tRaiseExpiry pole) s = .next t ∧
      channel t pole = { c with state := .lowering, good := 0, tRaise := none,
                                tRetr := some (tRetr s.mge.params) } ∧
      slot t pole = commanded .pullDown pole s ∧ OnlyPole pole s t ∧
      t.handed = s.handed ++ [.poleReport pole .lowering true] ∧
      t.upi = (placeNotice [3, poleCode pole] s).upi ∧
      t = { s with pwu := t.pwu, pli := t.pli, upi := t.upi, handed := t.handed }) ∧
    (c.tRetr = some n → ∃ t, exec (.tRetrExpiry pole) s = .next t ∧
      channel t pole = { c with tRetr := some (tRetr s.mge.params) } ∧
      slot t pole = commanded .pullDown pole s ∧ OnlyPole pole s t ∧
      t.handed = s.handed ++ [.alarmRaise (.retrieveFail pole) false] ∧
      t = { s with pwu := t.pwu, pli := t.pli, handed := t.handed }) ∧
    ∀ v : View, exec (.sectionViewAtPwu v) s = .next { s with
      handed := s.handed.erase (.sectionViewAtPwu v)
      pwu.view := v }

/-! ### The Pole Line Interface -/

/-- R47 to R49, R54: a frame on Port S is judged on its check sequence, its destination, its kind, its length and its
source in this order; a sample with the last accepted number is discarded and any other is delivered. R55: the frame met
under way at power-on is not acted on, and the line is idle after it. The model's choices, log entry 8: a run of bytes whose
number is not what its length field calls for is a failed check (DEDUCED), and the two fields `lineBusy` and `ackDriven`
(DESIGN CHOICE). -/
def Obligations.PoleLineFrameJudged : Prop :=
  (∀ (bytes : List Byte) (s : State), s.pli.underWay = true → exec (.portSFrameReceived bytes) s = .next { s with
    pli.underWay := false, pli.lineBusy := false, pli.ackDriven := false }) ∧
  ∀ (bytes : List Byte) (s : State), s.pli.underWay = false →
    let heard := { s with pli.lineBusy := false, pli.ackDriven := true }
    (parseLine bytes = none → exec (.portSFrameReceived bytes) s = .next { s with
      pli.lineBusy := false, pli.ackDriven := false, pli.err := tookCode s.pli.err .checkFailed 0 }) ∧
    ∀ f, parseLine bytes = some f →
      (f.dst ≠ 1 → exec (.portSFrameReceived bytes) s = .next { s with
        pli.lineBusy := false, pli.ackDriven := false }) ∧
      (f.dst = 1 →
        (f.kind ≠ 1 → f.kind ≠ 2 → exec (.portSFrameReceived bytes) s = .next { heard with
          pli.err := tookCode s.pli.err .badField 4 }) ∧
        ((f.kind = 1 ∧ f.payload.length ≠ 6) ∨ (f.kind = 2 ∧ f.payload.length ≠ 1) →
          exec (.portSFrameReceived bytes) s = .next { heard with pli.err := tookCode s.pli.err .length 1 }) ∧
        ((f.kind = 2 ∧ f.payload.length = 1) ∨ (f.kind = 1 ∧ f.payload.length = 6 ∧ f.source ≠ 2 ∧ f.source ≠ 3) →
          exec (.portSFrameReceived bytes) s = .next { heard with pli.err := tookCode s.pli.err .badField 4 }) ∧
        ∀ pole x, f.kind = 1 → f.source = poleAddress pole → samplePayload f.payload = some x →
          (lastSeq s pole = some x.seq → exec (.portSFrameReceived bytes) s = .next heard) ∧
          (lastSeq s pole ≠ some x.seq → ∃ t, exec (.portSFrameReceived bytes) s = .next t ∧
            lastSeq t pole = some x.seq ∧ (∀ q, q ≠ pole → lastSeq t q = lastSeq s q) ∧
            t = { heard with pli.seqP := t.pli.seqP, pli.seqN := t.pli.seqN,
                             handed := s.handed ++ [.sampleAccepted pole x] }))

/-- R51: on an idle line PLI starts the WAITING command with the earlier entry time, P on a tie; the slot becomes
SENDING and the command frame is on the line. With no slot WAITING nothing starts. The earlier of two entry times is the
greater age in 32 bits, across a wrap of the count (DEDUCED, log entry 10). -/
def Obligations.CommandStartsInEntryOrder : Prop :=
  ∀ s : State, s.pli.sending = none → s.pli.lineBusy = false →
    let age := fun pole => (s.ms - (slot s pole).entry).toNat
    ((slot s .p).state ≠ .waiting → (slot s .n).state ≠ .waiting → exec .commandTxStart s = .next s) ∧
    ∀ pole cmd, (slot s pole).state = .waiting → (slot s pole).cmd = some cmd →
      (pole = .p → (slot s .n).state = .waiting → age .n ≤ age .p) →
      (pole = .n → (slot s .p).state = .waiting → age .p < age .n) →
      ∃ t, exec .commandTxStart s = .next t ∧
        slot t pole = { slot s pole with state := .sending } ∧ (∀ q, q ≠ pole → slot t q = slot s q) ∧
        t.pli.sending = some { pole := pole, cmd := cmd, wire := commandWire pole cmd, orphan := false } ∧
        t = { s with pli.slotP := t.pli.slotP, pli.slotN := t.pli.slotN, pli.sending := t.pli.sending }

/-- R45, R46, R52: what a lost arbitration, an acknowledged end and an unacknowledged end do to the slot that was
sending, and to the slot of a command replaced or dropped meanwhile. R55: the ending of a frame that was on the line at a
RESTART changes no slot, asks for no clear and records no error. R53: at the delivery limit the command is dropped and
POLE_LINE_FAULT raised; where its frame is on the line, the outcome stays pending. -/
def Obligations.CommandOutcomes : Prop :=
  (∀ (tx : LineTx) (s : State), s.pli.sending = some tx → tx.orphan = false →
    let x := slot s tx.pole
    (∃ t, exec .arbitrationLost s = .next t ∧
      slot t tx.pole = (if x.linePending then { x with linePending := false } else { x with state := .waiting }) ∧
      (∀ q, q ≠ tx.pole → slot t q = slot s q) ∧
      t = { s with pli.slotP := t.pli.slotP, pli.slotN := t.pli.slotN, pli.sending := none,
                   pli.lineBusy := true }) ∧
    (∃ t, exec (.commandTxEnd true) s = .next t ∧
      slot t tx.pole = (if x.linePending then { x with linePending := false }
        else { x with state := .empty, cmd := none, tx := 0, tCmd := none }) ∧
      (∀ q, q ≠ tx.pole → slot t q = slot s q) ∧
      t = { s with pli.slotP := t.pli.slotP, pli.slotN := t.pli.slotN, pli.sending := none,
                   handed := s.handed ++ [.alarmClear .poleLineFault] }) ∧
    (∃ t, exec (.commandTxEnd false) s = .next t ∧
      slot t tx.pole = (if x.linePending then { x with linePending := false }
        else if x.tx + 1 < 4 then { x with state := .waiting, tx := x.tx + 1 }
        else { x with state := .spent, tx := 4 }) ∧
      (∀ q, q ≠ tx.pole → slot t q = slot s q) ∧
      t = { s with pli.slotP := t.pli.slotP, pli.slotN := t.pli.slotN, pli.sending := none,
                   pli.err := tookCode s.pli.err .noAck 5 })) ∧
  (∀ (tx : LineTx) (s : State), s.pli.sending = some tx → tx.orphan = true →
    exec .arbitrationLost s = .next { s with pli.sending := none, pli.lineBusy := true } ∧
    ∀ acknowledged, exec (.commandTxEnd acknowledged) s = .next { s with pli.sending := none }) ∧
  ∀ (pole : Pole) (n : Nat) (s : State), (slot s pole).tCmd = some n →
    ∃ t, exec (.tCmdExpiry pole) s = .next t ∧
      slot t pole = { slot s pole with
        state := .empty, cmd := none, tx := 0, tCmd := none
        linePending := (slot s pole).linePending || decide ((slot s pole).state = .sending) } ∧
      (∀ q, q ≠ pole → slot t q = slot s q) ∧
      t = { s with pli.slotP := t.pli.slotP, pli.slotN := t.pli.slotN,
                   handed := s.handed ++ [.alarmRaise .poleLineFault false] }

/-! ### The Supply Mode Controller -/

/-- R58 to R61, R63: the result of an evaluation, test by test, with the latch and the NO_LINE timer after it. From NO_LINE the
timer stays stopped (R63), in the states that SupplyAndBudgetStayLegal keeps. -/
def Obligations.EvaluationGivesMode : Prop :=
  ∀ (c : Instr) (s : State), IsEvaluation c →
    let p := s.pwu.chP
    let n := s.pwu.chN
    let dropped := fun ch : Channel => (ch.state = .dropped ∨ ch.state = .retrieving) ∧ ch.lastDropActed = true
    let unjudged := fun ch : Channel => ch.state = .unknown ∨ ch.state = .lost
    let up := fun ch : Channel =>
      ch.state = .onWire ∨ ch.state = .suspect ∨ (ch.state = .dropped ∧ ch.mask = .reportOnly)
    let released := p.state = .stowed ∧ n.state = .stowed ∧ openActedDrop s.alm = false
    let resolved := s.smc.latch = false ∧ ¬ dropped p ∧ ¬ dropped n ∧ ¬ unjudged p ∧ ¬ unjudged n
    let line := resolved ∧ up p ∧ up n ∧ s.sct.view.kind ≠ .insulator ∧ s.sct.view.kind ≠ .dead
    ∃ t, exec c s = .next t ∧
      (s.smc.latch = true → released → t.smc.mode = .battery) ∧
      (s.smc.latch = true → ¬ released → t.smc.mode = .dewired) ∧
      (s.smc.latch = false → dropped p ∨ dropped n → t.smc.mode = .dewired) ∧
      (s.smc.latch = false → ¬ dropped p → ¬ dropped n → unjudged p ∨ unjudged n → t.smc.mode = .unresolved) ∧
      (resolved → up p → up n → s.sct.view.kind = .insulator → t.smc.mode = .gap .insulator) ∧
      (resolved → up p → up n → s.sct.view.kind = .dead → t.smc.mode = .gap .dead) ∧
      (line → s.smc.mode ≠ .noLine → t.smc.mode = .wire) ∧
      (line → s.smc.mode = .noLine → vRestore s.mge.params ≤ sampleLine s → t.smc.mode = .wire) ∧
      (line → s.smc.mode = .noLine → sampleLine s < vRestore s.mge.params → t.smc.mode = .noLine) ∧
      (resolved → ¬ (up p ∧ up n) → t.smc.mode = .battery) ∧
      (t.smc.latch = true ↔ t.smc.mode = .dewired) ∧
      (line → s.smc.mode ≠ .noLine → sampleLine s < vLost s.mge.params →
        t.smc.noLine = some (s.smc.noLine.getD (tLost s.mge.params))) ∧
      (line → s.smc.mode ≠ .noLine → vLost s.mge.params ≤ sampleLine s → t.smc.noLine = none) ∧
      (t.smc.mode ≠ .wire → t.smc.mode ≠ .noLine → t.smc.noLine = none) ∧
      (SupplyLegal s → s.smc.mode = .noLine → t.smc.noLine = none)

/-- R62, R64 to R68: a changed mode makes its alarm requests, asks for its cut, goes to CBU and is noticed, in that order;
an unchanged one does none of these; the wireless exposure is judged last; and the expiry of the NO_LINE timer publishes
NO_LINE without judging the exposure. Nothing else changes. -/
def Obligations.ModeChangePublished : Prop :=
  let published := fun (old new : SupplyMode) =>
    if new = old then [] else
      (if new = .noLine then [Instr.alarmRaise .noLine false] else []) ++
      (if old = .noLine then [Instr.alarmClear .noLine] else []) ++
      (if new = .dewired then [Instr.cutRequest .dewired] else []) ++
      (if new = .unresolved then [Instr.cutRequest .unresolved] else []) ++ [Instr.modeAtCbu new]
  let noticed := fun (old new : SupplyMode) (s : State) =>
    if new = old then s.upi
    else (placeNotice [4, modeCode new, subkindCode new, modeCode old, subkindCode old] s).upi
  (∀ (c : Instr) (s : State), IsEvaluation c →
    ∃ t, exec c s = .next t ∧
      let exposed : Bool := decide (s.sct.view.kind = .wireless ∧
        (s.pwu.chP.state ≠ .stowed ∨ s.pwu.chN.state ≠ .stowed))
      t.smc.exposed = exposed ∧
      t.handed = s.handed.erase c ++ published s.smc.mode t.smc.mode ++ exposureEvents exposed s.smc.exposed ∧
      t.upi = noticed s.smc.mode t.smc.mode s ∧ t = { s with smc := t.smc, handed := t.handed, upi := t.upi }) ∧
  ∀ (n : Nat) (s : State), s.smc.noLine = some n → exec .noLineTimerExpiry s = .next { s with
    smc.mode := .noLine
    smc.noLine := none
    handed := s.handed ++ published s.smc.mode .noLine
    upi := noticed s.smc.mode .noLine s }

/-! ### The Current Budget Unit -/

/-- R72, R79 to R82: each of the five events stores what it carries and recomputes from the inputs as they stand. The cap is
that of the view that CBU has taken (DEDUCED from R79 and R82, log entry 5), so a parameter commit taken before its view is
computed with the old default cap. -/
def Obligations.BudgetRecomputedOnEachEvent : Prop :=
  ∀ s : State,
    let b := s.cbu
    (∀ v, ∃ t, exec (.voltageSample .p v) s = .next t ∧
      Recomputed (.voltageSample .p v) s t v b.voltsN b.record.mode b.cap b.record.reservation) ∧
    (∀ v, ∃ t, exec (.voltageSample .n v) s = .next t ∧
      Recomputed (.voltageSample .n v) s t b.voltsP v b.record.mode b.cap b.record.reservation) ∧
    (∀ m, ∃ t, exec (.modeAtCbu m) s = .next t ∧
      Recomputed (.modeAtCbu m) s t b.voltsP b.voltsN m b.cap b.record.reservation) ∧
    (∀ v, ∃ t, exec (.sectionViewAtCbu v) s = .next t ∧
      Recomputed (.sectionViewAtCbu v) s t b.voltsP b.voltsN b.record.mode v.cap b.record.reservation) ∧
    (∀ r, ∃ t, exec (.reservationAtCbu r) s = .next t ∧
      Recomputed (.reservationAtCbu r) s t b.voltsP b.voltsN b.record.mode b.cap r) ∧
    (∃ t, exec .cbuParameterCommit s = .next t ∧
      Recomputed .cbuParameterCommit s t b.voltsP b.voltsN b.record.mode b.cap b.record.reservation)

/-- R74 to R77: with the taper ends in order, the tapers meet their ends, stay within their ceilings and move one way
with the voltage; and every row of the record is as the table gives. -/
def Obligations.BudgetArithmetic : Prop :=
  ∀ (t : ParamTable) (cap v w r : Nat), vMin t < vKnee t → vRk t < vRmax t →
    (v ≤ vMin t → undervoltageTaper t v = 0) ∧ (vKnee t ≤ v → undervoltageTaper t v = iLineMax t) ∧
    (vMin t < v → v < vKnee t →
      undervoltageTaper t v * (vKnee t - vMin t) ≤ iLineMax t * (v - vMin t) ∧
      iLineMax t * (v - vMin t) < (undervoltageTaper t v + 1) * (vKnee t - vMin t)) ∧
    (v ≤ w → undervoltageTaper t v ≤ undervoltageTaper t w ∧ regenTaper t w ≤ regenTaper t v) ∧
    undervoltageTaper t v ≤ iLineMax t ∧ regenTaper t v ≤ gMax t ∧
    (v ≤ vRk t → regenTaper t v = gMax t) ∧ (vRmax t ≤ v → regenTaper t v = 0) ∧
    (vRk t < v → v < vRmax t →
      regenTaper t v * (vRmax t - vRk t) ≤ gMax t * (vRmax t - v) ∧
      gMax t * (vRmax t - v) < (regenTaper t v + 1) * (vRmax t - vRk t)) ∧
    ∀ mode, ∃ b : BudgetRecord, budgetFor t mode cap v r = b ∧ b.mode = mode ∧ b.reservation = r ∧
      (mode = .wire → b.supply = min (iLineMax t) (min cap (undervoltageTaper t v)) ∧ b.regen = regenTaper t v) ∧
      (mode ≠ .wire → b.supply = aBatt t ∧ b.regen = gBatt t) ∧
      (mode = .gap .insulator ∨ mode = .unresolved ∨ mode = .dewired → b.auxCap = b.supply ∧ b.motoring = 0) ∧
      (¬ (mode = .gap .insulator ∨ mode = .unresolved ∨ mode = .dewired) →
        (b.auxCap : Int) = max 0 ((b.supply : Int) - tFloor t) ∧
        (b.motoring : Int) = max 0 ((b.supply : Int) - r) ∧
        (0 < b.motoring → b.motoring + b.reservation = b.supply))

/-! ### The Traction Admission Unit -/

/-- R90, R91, R87: a demand of the right length is admitted and its rewritten frame takes lane 1; any other is ignored with
BAD_FIELD. -/
def Obligations.DemandAdmittedOrIgnored : Prop :=
  ∀ (f : Frame) (s : State),
    (f.payload.length ≠ 2 → exec (.tractionDemand f) s = .next { s with
      handed := s.handed.erase (.tractionDemand f)
      upi.err := tookCode s.upi.err .badField 4 }) ∧
    ∀ hi lo, f.payload = [hi, lo] →
      let d := signedCurrent hi lo
      let c := clipDemand s.tau.record d
      let a := stepDemand (sStep s.mge.params) s.tau.admitted c
      let reason := reasonCode (limitReason s.tau.record.mode d c a)
      ∃ t, exec (.tractionDemand f) s = .next t ∧
        t.tau = { s.tau with admitted := a, requested := d, tStale := some (tStale s.mge.params) } ∧
        t.dec.lanes = { s.dec.lanes with
          lane1 := some { f with cls := 1, payload := signed16 a ++ signed16 d ++ [reason] } } ∧
        t = { s with handed := s.handed.erase (.tractionDemand f), tau := t.tau, dec.lanes := t.dec.lanes,
                     dec.tHeld := t.dec.tHeld }

/-- R84 to R87: the clip, the step limit and the limit reason, and the bounds they give the admitted current. -/
def Obligations.AdmissionArithmetic : Prop :=
  ∀ (r : BudgetRecord) (step : Nat) (p d : Int),
    let c := clipDemand r d
    let a := stepDemand step p c
    (0 ≤ d → c = min d r.motoring) ∧ (d < 0 → c = max d (-(r.regen : Int))) ∧
    (0 < c → p < 0 → a = min c step) ∧ (c < 0 → 0 < p → a = max c (-(step : Int))) ∧
    (0 < c → 0 ≤ p → p < c → a = min c (p + step)) ∧ (c < 0 → p ≤ 0 → c < p → a = max c (p - step)) ∧
    (0 ≤ c → c ≤ p → a = c) ∧ (c ≤ 0 → p ≤ c → a = c) ∧
    (limitReason r.mode d c a = .step ↔ a.natAbs < c.natAbs) ∧
    (limitReason r.mode d c a = .mode ↔ a.natAbs = c.natAbs ∧ c ≠ d ∧ 0 < d ∧
      (r.mode = .gap .insulator ∨ r.mode = .unresolved ∨ r.mode = .dewired)) ∧
    (limitReason r.mode d c a = .budget ↔ a.natAbs = c.natAbs ∧ c ≠ d ∧ 0 < d ∧
      ¬ (r.mode = .gap .insulator ∨ r.mode = .unresolved ∨ r.mode = .dewired)) ∧
    (limitReason r.mode d c a = .regen ↔ a.natAbs = c.natAbs ∧ c ≠ d ∧ d < 0) ∧
    (0 < a → a ≤ r.motoring ∧ 0 < d) ∧ (a < 0 → -a ≤ r.regen ∧ d < 0) ∧ a.natAbs ≤ c.natAbs

/-- R92, R93: a new record re-clips the admitted demand to M or to -G with a re-clip frame in lane 1, and otherwise is
only taken into use. -/
def Obligations.RecordReclipsDemand : Prop :=
  ∀ (r : BudgetRecord) (s : State),
    let p := s.tau.admitted
    let reclipped := fun (new : Int) (reason : Byte) (t : State) =>
      t.tau = { s.tau with record := r, admitted := new } ∧
      t.dec.lanes = { s.dec.lanes with lane1 := some (reclipOf s new reason) } ∧
      t = { s with handed := s.handed.erase (.budgetRecordAtTau r), tau := t.tau, dec.lanes := t.dec.lanes,
                   dec.tHeld := t.dec.tHeld }
    ∃ t, exec (.budgetRecordAtTau r) s = .next t ∧
      ((r.motoring : Int) < p → reclipped r.motoring (if isCoasting r.mode then 4 else 2) t) ∧
      (p ≤ (r.motoring : Int) → p < -(r.regen : Int) → reclipped (-(r.regen : Int)) 3 t) ∧
      (p ≤ (r.motoring : Int) → -(r.regen : Int) ≤ p → t = { s with
        handed := s.handed.erase (.budgetRecordAtTau r)
        tau.record := r })

/-- R94: a staleness expiry holds a non-zero demand to 0 with a re-clip frame and a DEMAND_STALE notice, and passes
silently at 0. -/
def Obligations.StaleDemandHeldToZero : Prop :=
  ∀ (n : Nat) (s : State), s.tau.tStale = some n →
    (s.tau.admitted = 0 → exec .tStaleExpiry s = .next { s with tau.tStale := none }) ∧
    (s.tau.admitted ≠ 0 → ∃ t, exec .tStaleExpiry s = .next t ∧
      t.tau = { s.tau with tStale := none, admitted := 0 } ∧
      t.dec.lanes = { s.dec.lanes with lane1 := some (reclipOf s 0 4) } ∧
      t.upi = (placeNotice ([5] ++ signed16 s.tau.admitted ++ signed16 s.tau.requested) s).upi ∧
      t = { s with tau := t.tau, dec.lanes := t.dec.lanes, dec.tHeld := t.dec.tHeld, upi := t.upi })

/-- R96, R97: a cut request empties lane 1, sets the admitted demand to 0, and places a cut frame or gives the waiting one
the new cause. -/
def Obligations.CutRequestPlacesCut : Prop :=
  ∀ (cause : CutCause) (s : State),
    ∃ t, exec (.cutRequest cause) s = .next t ∧
      t.tau = { s.tau with admitted := 0, cutWaiting := some cause } ∧
      t.dec.lanes = { s.dec.lanes with
        lane1 := none
        cut := if s.tau.cutWaiting.isSome then
            s.dec.lanes.cut.map fun f => { f with payload := [0, 0, cutCauseCode cause] }
          else some (built s 0 (inverterNode s.mge.params) [0, 0, cutCauseCode cause]) } ∧
      t = { s with handed := s.handed.erase (.cutRequest cause), tau := t.tau, dec.lanes := t.dec.lanes,
                   dec.tHeld := t.dec.tHeld }

/-- R99, R100: a status at or below I_residual closes the window and clears an unconfirmed cut, a higher one changes
nothing, one of the wrong length is BAD_FIELD, and the expiry of T_cut raises CUT_UNCONFIRMED. -/
def Obligations.CutConfirmation : Prop :=
  (∀ (f : Frame) (s : State),
    let s1 := { s with handed := s.handed.erase (.driveStatus f) }
    (f.payload.length ≠ 2 → exec (.driveStatus f) s = .next { s1 with
      dec.err := tookCode s.dec.err .badField 4 }) ∧
    ∀ hi lo, f.payload = [hi, lo] →
      (iResidual s.mge.params < (signedCurrent hi lo).natAbs → exec (.driveStatus f) s = .next s1) ∧
      ((signedCurrent hi lo).natAbs ≤ iResidual s.mge.params → exec (.driveStatus f) s = .next { s1 with
        tau.window := false
        tau.tCut := if s.tau.window then none else s.tau.tCut
        tau.unconfirmed := false
        handed := s1.handed ++ (if s.tau.unconfirmed then [.alarmClear .cutUnconfirmed] else []) })) ∧
  ∀ (n : Nat) (s : State), s.tau.tCut = some n → exec .tCutExpiry s = .next { s with
    tau.window := false
    tau.tCut := none
    tau.unconfirmed := true
    handed := s.handed ++ [.alarmRaise .cutUnconfirmed false] }

/-! ### The Auxiliary Scheduler -/

/-- R108: the waiting list holds the loads that joined it, by priority ascending and then in the order of joining. R116:
the shed order holds the ON loads, by priority descending and then the most recently admitted first. -/
def Obligations.OrdersOfLoads : Prop :=
  ∀ s : State,
    (waitingList s).Perm s.axs.joinOrder ∧
    (waitingList s).Pairwise (fun a b => priority s a ≤ priority s b) ∧
    (∀ k, (waitingList s).filter (fun i => decide (priority s i = k)) =
      s.axs.joinOrder.filter (fun i => decide (priority s i = k))) ∧
    (∀ i, i ∈ onLoads s ↔ (loadRec s i).state = .on) ∧ (onLoads s).Nodup ∧
    (onLoads s).Pairwise (fun a b => priority s b < priority s a ∨
      (priority s b = priority s a ∧ (loadRec s b).order.getD 0 ≤ (loadRec s a).order.getD 0))

/-- R120: the expiry of a minimum-on timer only stops it. R121, R114, R115, R109: the expiry of a minimum-off timer stops
it, runs an admission pass, and hands over a reservation that has changed. -/
def Obligations.MinimumTimers : Prop :=
  (∀ (i : LoadIx) (n : Nat) (s : State), (loadRec s i).minOn = some n →
    exec (.minOnExpiry i) s = .next (setLoad i { loadRec s i with minOn := none } s)) ∧
  ∀ (i : LoadIx) (n : Nat) (s : State), (loadRec s i).minOff = some n → LoadsLegal s →
    ∃ t, exec (.minOffExpiry i) s = .next t ∧
      PassedAndHanded s (setLoad i { loadRec s i with minOff := none } s) t

/-- R110: an aux request of another length, for no valid load, or with another wanted state is ignored with BAD_FIELD.
R111: an ON request sets the requested flag; an OFF load also joins the waiting list, with its notice, and an admission
pass follows. -/
def Obligations.AuxRequestOn : Prop :=
  (∀ (f : Frame) (c : Instr) (s : State), c = .auxRequestOn f ∨ c = .auxRequestOff f →
    (f.payload.length ≠ 2 ∨ ∃ id wanted, f.payload = [id, wanted] ∧
      ((∀ i, loadOf id = some i → (auxEntry s i).valid = false) ∨ (wanted ≠ 0 ∧ wanted ≠ 1))) →
    exec c s = .next { s with
      handed := s.handed.erase c
      upi.err := tookCode s.upi.err .badField 4 }) ∧
  ∀ (f : Frame) (id : Byte) (i : LoadIx) (s : State), f.payload = [id, 1] → loadOf id = some i →
    (auxEntry s i).valid = true → LoadsLegal s →
    let r := loadRec s i
    let s1 := { s with handed := s.handed.erase (.auxRequestOn f) }
    (r.state ≠ .off → exec (.auxRequestOn f) s = .next (setLoad i { r with requested := true } s1)) ∧
    (r.state = .off →
      let s0 := placeNotice (auxStatePayload i 0 1 1 s.axs.reservation)
        (setLoad i { r with state := .waiting, requested := true, joined := some s.ms }
          { s1 with axs.joinOrder := s.axs.joinOrder ++ [i] })
      ∃ t, exec (.auxRequestOn f) s = .next t ∧ PassedAndHanded s s0 t)

/-- R112: an OFF request clears the requested flag; an ON load leaves ON with an OFF command and an admission pass, a
WAITING or SHED load leaves the waiting list, and a FAULT load goes OFF, each with its notice. -/
def Obligations.AuxRequestOff : Prop :=
  ∀ (f : Frame) (id : Byte) (i : LoadIx) (s : State), f.payload = [id, 0] → loadOf id = some i →
    (auxEntry s i).valid = true → LoadsLegal s →
    let r := loadRec s i
    let e := auxEntry s i
    let left := s.axs.reservation - nominal s i
    let s1 := { s with handed := s.handed.erase (.auxRequestOff f) }
    (r.state = .on →
      let s0 := placeNotice (auxStatePayload i 2 0 2 left)
        (placeCommand i (offCommand s e i)
          (setLoad i { leftOn e r with state := .off, requested := false } { s1 with axs.reservation := left }))
      ∃ t, exec (.auxRequestOff f) s = .next t ∧ PassedAndHanded s s0 t) ∧
    (r.state = .waiting ∨ r.state = .shed → exec (.auxRequestOff f) s = .next
      (placeNotice (auxStatePayload i (loadStateCode r.state) 0 2 s.axs.reservation)
        (setLoad i { r with state := .off, requested := false, joined := none }
          { s1 with axs.joinOrder := s.axs.joinOrder.filter (fun j => decide (j ≠ i)) }))) ∧
    (r.state = .fault → exec (.auxRequestOff f) s = .next
      (placeNotice (auxStatePayload i 4 0 2 s.axs.reservation)
        (setLoad i { r with state := .off, requested := false } s1))) ∧
    (r.state = .off → exec (.auxRequestOff f) s = .next (setLoad i { r with requested := false } s1))

/-- R119, R122, R116 to R118: a budget record taken into use, or a parameter commit, sheds as planned; an admission pass
follows a commit always, and a record where a load was shed, the aux cap rose or eligibility widened. Afterwards the ON
loads stay within the record. -/
def Obligations.LoadsReviewed : Prop :=
  (∀ (r : BudgetRecord) (s : State), LoadsLegal s →
    let s1 := { s with handed := s.handed.erase (.budgetRecordAtAxs r), axs.record := r }
    let widened := (s.axs.record.mode ≠ .wire ∧ r.mode = .wire) ∨ (s.axs.record.mode = .dewired ∧ r.mode ≠ .dewired)
    ∃ s2 t, exec (.budgetRecordAtAxs r) s = .next t ∧ ShedBy (shedPlan s1) s1 s2 ∧
      (if shedPlan s1 ≠ [] ∨ s.axs.record.auxCap < r.auxCap ∨ widened then Passed s2 { t with handed := s2.handed }
        else { t with handed := s2.handed } = s2) ∧
      HandsReservation s1.handed s t ∧ LoadsWithinRecord t) ∧
  ∀ s : State, LoadsLegal s →
    let s1 := { s with handed := s.handed.erase .axsParameterCommit }
    ∃ s2 t, exec .axsParameterCommit s = .next t ∧ ShedBy (shedPlan s1) s1 s2 ∧
      Passed s2 { t with handed := s2.handed } ∧ HandsReservation s1.handed s t ∧ LoadsWithinRecord t

/-- R123 to R125: a status for no valid load is BAD_FIELD, and one from another node is passed over. Otherwise the
running flag is recorded, a fault puts an ON, WAITING or SHED load in FAULT, its end puts a FAULT load back on the
waiting list, and a converter still running with its load not ON is commanded OFF again. R114: where the fault released
an ON load or ended, the admission pass runs at the end of the event, so R125 is judged on the state before it (DEDUCED,
log entry 12). -/
def Obligations.AuxStatusJudged : Prop :=
  (∀ (f : Frame) (s : State), (f.payload.length ≠ 2 ∨ ∃ id status, f.payload = [id, status] ∧
      ∀ i, loadOf id = some i → (auxEntry s i).valid = false) →
    exec (.auxStatus f) s = .next { s with
      handed := s.handed.erase (.auxStatus f)
      dec.err := tookCode s.dec.err .badField 4 }) ∧
  ∀ (f : Frame) (id status : Byte) (i : LoadIx) (s : State), f.payload = [id, status] → loadOf id = some i →
    (auxEntry s i).valid = true → LoadsLegal s →
    let e := auxEntry s i
    let s1 := { s with handed := s.handed.erase (.auxStatus f) }
    let r := { loadRec s i with running := some (status.getLsbD 0) }
    let left := s.axs.reservation - nominal s i
    (f.src ≠ e.node.setWidth 6 → exec (.auxStatus f) s = .next s1) ∧
    (f.src = e.node.setWidth 6 → ∃ s2 t, exec (.auxStatus f) s = .next t ∧
      (status.getLsbD 1 = true → r.state = .on → s2 = placeNotice (auxStatePayload i 2 4 6 left)
        (placeCommand i (offCommand s e i)
          (setLoad i { leftOn e r with state := .fault } { s1 with axs.reservation := left }))) ∧
      (status.getLsbD 1 = true → r.state = .waiting ∨ r.state = .shed →
        s2 = placeNotice (auxStatePayload i (loadStateCode r.state) 4 6 s.axs.reservation)
          (setLoad i { r with state := .fault, joined := none }
            { s1 with axs.joinOrder := s.axs.joinOrder.filter (fun j => decide (j ≠ i)) })) ∧
      (status.getLsbD 1 = false → r.state = .fault → s2 = placeNotice (auxStatePayload i 4 1 7 s.axs.reservation)
        (setLoad i { r with state := .waiting, joined := some s.ms }
          { s1 with axs.joinOrder := s.axs.joinOrder ++ [i] })) ∧
      (¬ (status.getLsbD 1 = true ∧ (r.state = .on ∨ r.state = .waiting ∨ r.state = .shed)) →
        ¬ (status.getLsbD 1 = false ∧ r.state = .fault) → s2 = setLoad i r s1) ∧
      let s3 :=
        if status.getLsbD 0 = true ∧ (loadRec s2 i).state ≠ .on then placeCommand i (offCommand s e i) s2 else s2
      (if (status.getLsbD 1 = true ∧ r.state = .on) ∨ (status.getLsbD 1 = false ∧ r.state = .fault) then
        Passed s3 { t with handed := s3.handed } else { t with handed := s3.handed } = s3) ∧
      HandsReservation s1.handed s t)

/-! ### The Alarm List -/

/-- R134 to R137, R142, R143: a raise without a record appends one with its first-raise values, the section ID and the chainage
absent for POSITION_LOST (R9); a raise of a record that stands
counts, saturating at 255, takes the time, joins the acted flag, and raises a cleared record again. The ALARM frame takes
the place of the key's waiting one, or the tail. R138, R141: a clear of an unacknowledged record marks it cleared, a
clear of an acknowledged one removes it with a REMOVED frame and, for a POLE_DROP key, the report to SMC, and any other
clear changes nothing. What is handed over stands in `handed` in the model's form (log entry 1). -/
def Obligations.AlarmsRaisedAndCleared : Prop :=
  (∀ (key : AlarmKey) (acted : Bool) (s : State), (∀ x ∈ s.alm, x.key ≠ key) →
    let r : AlarmRec :=
      { key := key, state := .raisedUnacked, acted := if key.isPoleDrop then some acted else none, first := s.ms,
        last := s.ms, repeats := 1, sectionId := if s.sct.view.known ∧ key ≠ .positionLost then some s.sct.view.id else none,
        chainage := if s.sct.view.known ∧ key ≠ .positionLost then s.sct.position.map Prod.snd else none,
        volts := min s.cbu.voltsP.toNat s.cbu.voltsN.toNat }
    exec (.alarmRaise key acted) s = .next { s with
      handed := s.handed.erase (.alarmRaise key acted)
      alm := s.alm ++ [r]
      upi.groupA := putAlarm key (alarmFrame s 1 r) s.upi.groupA }) ∧
  (∀ (acted : Bool) (pre post : List AlarmRec) (r : AlarmRec) (s : State),
    s.alm = pre ++ r :: post → (∀ x ∈ pre ++ post, x.key ≠ r.key) →
    let r' := { r with
      state := if r.state = .clearedUnacked then .raisedUnacked else r.state
      repeats := min 255 (r.repeats + 1)
      last := s.ms
      acted := r.acted.map (fun a => a || acted) }
    exec (.alarmRaise r.key acted) s = .next { s with
      handed := s.handed.erase (.alarmRaise r.key acted)
      alm := pre ++ r' :: post
      upi.groupA := putAlarm r.key (alarmFrame s (if r.state = .clearedUnacked then 1 else 2) r') s.upi.groupA }) ∧
  (∀ (key : AlarmKey) (f g : Frame) (pre post : List GroupA), key ∉ waitingKeys pre →
    putAlarm key f (pre ++ .alarm key g :: post) = pre ++ .alarm key f :: post ∧
    putAlarm key f pre = pre ++ [.alarm key f]) ∧
  (∀ (key : AlarmKey) (s : State), (∀ x ∈ s.alm, x.key = key → x.state = .clearedUnacked) →
    exec (.alarmClear key) s = .next { s with handed := s.handed.erase (.alarmClear key) }) ∧
  ∀ (pre post : List AlarmRec) (r : AlarmRec) (s : State),
    s.alm = pre ++ r :: post → (∀ x ∈ pre ++ post, x.key ≠ r.key) →
    let r' := { r with state := .clearedUnacked }
    (r.state = .raisedUnacked → exec (.alarmClear r.key) s = .next { s with
      handed := s.handed.erase (.alarmClear r.key)
      alm := pre ++ r' :: post
      upi.groupA := putAlarm r.key (alarmFrame s 3 r') s.upi.groupA }) ∧
    (r.state = .raisedAcked → exec (.alarmClear r.key) s = .next { s with
      handed := s.handed.erase (.alarmClear r.key) ++ dropReport r.key
      alm := pre ++ post
      upi.groupA := putAlarm r.key (alarmFrame s 5 r) s.upi.groupA })

/-- R139, R140: the acknowledgement of ALL acknowledges each unacknowledged record and removes each cleared one, from the
head, and answers their number; that of one key does so for its record and answers 1, or 0 where it is acknowledged
already. Another field answers UNKNOWN_KEY, another length BAD_FIELD (R165). Each acknowledgement and removal has its ALARM
frame (R143) and, for a POLE_DROP key, its report (R141). The report stands in `handed`, and the request is taken, as log
entries 1 and 4 say. -/
def Obligations.AlarmsAcknowledged : Prop :=
  ∀ (q : Request) (s s1 : State), Taken .ackAlarm q s s1 → q.overLength = false → AlarmsLegal s →
    let acked := fun r : AlarmRec => { r with state := .raisedAcked }
    let frames := fun (g : List GroupA) (r : AlarmRec) =>
      match r.state with
      | .raisedUnacked => putAlarm r.key (alarmFrame s 4 (acked r)) g
      | .clearedUnacked => putAlarm r.key (alarmFrame s 5 r) g
      | .raisedAcked => g
    let open_ := fun r : AlarmRec => decide (r.state ≠ .raisedAcked)
    (q.args = [255] → Answered .ackAlarm q s .ok [BitVec.ofNat 8 (s.alm.countP open_)] { s1 with
      alm := (s.alm.filter (fun r => decide (r.state ≠ .clearedUnacked))).map acked
      handed := s1.handed ++ (s.alm.filter open_).flatMap (fun r => dropReport r.key)
      upi.groupA := s.alm.foldl frames s1.upi.groupA }) ∧
    (∀ pre post r, s.alm = pre ++ r :: post → q.args = [alarmKeyCode r.key] →
      Answered .ackAlarm q s .ok [if open_ r then 1 else 0] { s1 with
        alm := pre ++ (if r.state = .clearedUnacked then [] else [acked r]) ++ post
        handed := s1.handed ++ (if open_ r then dropReport r.key else [])
        upi.groupA := frames s1.upi.groupA r }) ∧
    (∀ c, q.args = [c] → c ≠ 255 → (∀ r ∈ s.alm, alarmKeyCode r.key ≠ c) →
      Answered .ackAlarm q s .unknownKey [] s1) ∧
    (q.args.length ≠ 1 → Answered .ackAlarm q s .badField [] s1)

/-! ### The frame paths -/

/-- R147, R180, R181: a run of bytes is accepted as a frame exactly when it is the wire form of that frame, its payload of
at most 32 bytes and its source not 0; otherwise it is refused with LENGTH, CHECK_FAILED or BAD_FIELD, in this order. R182,
R181: the same for a frame of Port S, of at most 15 payload bytes, any other run of bytes being a failed check (log entry
8); the fields of a sample; and a command frame is read as priority 1, source 1, kind COMMAND, to the pole's unit, carrying
its command (R44). -/
def Obligations.FrameAcceptance : Prop :=
  crc16 [0x31, 0x32, 0x33, 0x34, 0x35, 0x36, 0x37, 0x38, 0x39] = 0x29B1 ∧
  (∀ (bytes : List Byte) (f : LineFrame), parseLine bytes = some f ↔ f.payload.length ≤ 15 ∧ bytes = lineWire f) ∧
  (∀ payload : List Byte, payload.length ≠ 6 → samplePayload payload = none) ∧
  (∀ seq a1 a0 status v1 v0 : Byte, samplePayload [seq, a1, a0, status, v1, v0] = some
    { seq := seq, angle := a1 ++ a0, contact := status.getLsbD 0, hook := status.getLsbD 1,
      volts := (v1 ++ v0 : Half).extractLsb' 0 10 }) ∧
  (∀ (pole : Pole) (cmd : RetrieverCmd), parseLine (commandWire pole cmd) = some
    { priority := 1, source := 1, kind := 2, dst := match pole with | .p => 2 | .n => 3,
      payload := [match cmd with | .release => 1 | .pullDown => 2 | .hold => 3] }) ∧
  (∀ (bytes : List Byte) (f : Frame), parseFrame bytes = .ok f ↔ f.wf = true ∧ bytes = frameWire f) ∧
  ∀ bytes : List Byte,
    let n := (bytes.getD 3 0).toNat
    let sized := n ≤ 32 ∧ bytes.length = n + 6
    let checked := bytes.drop (n + 4) = be16 (crc16 (bytes.take (n + 4)))
    (¬ sized → parseFrame bytes = .error .length) ∧ (sized → ¬ checked → parseFrame bytes = .error .checkFailed) ∧
    (sized → checked → (bytes.getD 2 0).extractLsb' 0 6 = (0 : Node) → parseFrame bytes = .error .badField)

/-- R147, R148, R150, R157: a refused frame takes its code into the Port U record; an accepted one is delivered,
forwarded to lane 0 or lane 2, dropped, or refused by its class and destination, and lost with LANE_FULL where its FIFO is
full. A class 2 frame is handed over as AUX_REQUEST_OFF where its second byte is 0 and as AUX_REQUEST_ON otherwise, a
malformed one too (DEDUCED, log entry 15). R161: a frame met under way at power-on is not received. -/
def Obligations.PortUFrameClassified : Prop :=
  (∀ (bytes : List Byte) (s : State), s.upi.underWay = true →
    exec (.portUFrameReceived bytes) s = .next { s with upi.underWay := false }) ∧
  (∀ (bytes : List Byte) (e : ErrCode) (s : State), s.upi.underWay = false → parseFrame bytes = .error e →
    exec (.portUFrameReceived bytes) s = .next { s with upi.err := tookCode s.upi.err e (errCodeNum e - 1) }) ∧
  ∀ (bytes : List Byte) (f : Frame) (s : State), s.upi.underWay = false → parseFrame bytes = .ok f →
    let outcome := exec (.portUFrameReceived bytes) s
    let part := partNode s
    let fails := fun (e : ErrCode) (bit : Nat) => outcome = .next { s with upi.err := tookCode s.upi.err e bit }
    let given := fun c : Instr => outcome = .next { s with handed := s.handed ++ [c] }
    let forwarded := fun l : Lanes => ∃ t, outcome = .next t ∧ t.dec.lanes = l ∧
      t = { s with dec.lanes := t.dec.lanes, dec.tHeld := t.dec.tHeld }
    let lane0 := (s.dec.lanes.fifo0.length < 4 →
        forwarded { s.dec.lanes with fifo0 := s.dec.lanes.fifo0 ++ [f] }) ∧
      (4 ≤ s.dec.lanes.fifo0.length → fails .laneFull 3)
    let lane2 := (s.dec.lanes.fifo2.length < 8 →
        forwarded { s.dec.lanes with fifo2 := s.dec.lanes.fifo2 ++ [f] }) ∧
      (8 ≤ s.dec.lanes.fifo2.length → fails .laneFull 3)
    (f.cls = 0 → if f.dst = part then fails .classRefused 2 else lane0) ∧
    (f.cls = 1 → if f.dst ≠ 0 ∧ f.dst = inverterNode s.mge.params then given (.tractionDemand f)
      else fails .classRefused 2) ∧
    (f.cls = 2 → if f.dst = part then
        given (if f.payload[1]? = some 0 then .auxRequestOff f else .auxRequestOn f)
      else fails .classRefused 2) ∧
    (f.cls = 4 → if f.dst = part ∨ f.dst = 0 then given (.positionFrame f) else fails .classRefused 2) ∧
    (f.cls = 5 → if f.dst = part then given (.mgmtSegment f) else if f.dst = 0 then fails .classRefused 2 else lane2) ∧
    (f.cls = 3 ∨ (6 ≤ f.cls.toNat ∧ f.cls.toNat ≤ 10) → fails .classRefused 2) ∧
    ∀ k : Fin 5, f.cls.toNat = k.val + 11 →
      (f.dst = part → fails .classRefused 2) ∧
      (f.dst ≠ part → s.dec.classMap[k] = 0 → lane2) ∧ (f.dst ≠ part → s.dec.classMap[k] = 1 → lane0) ∧
      (f.dst ≠ part → s.dec.classMap[k] = 2 → outcome = .next s)

/-- R147, R149, R158: a refused frame takes its code into the Port D record; a status takes the place of the waiting one of
its source and class, or the tail; a frame of class 6 or 11 to 15 takes the tail; each is lost with LANE_FULL where no
entry is left, and a status watched is handed over all the same. R161: a frame met under way at power-on is not received. -/
def Obligations.PortDFrameClassified : Prop :=
  (∀ (bytes : List Byte) (s : State), s.dec.underWay = true →
    exec (.portDFrameReceived bytes) s = .next { s with dec.underWay := false }) ∧
  (∀ (bytes : List Byte) (e : ErrCode) (s : State), s.dec.underWay = false → parseFrame bytes = .error e →
    exec (.portDFrameReceived bytes) s = .next { s with dec.err := tookCode s.dec.err e (errCodeNum e - 1) }) ∧
  ∀ (bytes : List Byte) (f : Frame) (s : State), s.dec.underWay = false → parseFrame bytes = .ok f →
    let outcome := exec (.portDFrameReceived bytes) s
    let queue := s.upi.groupB
    let watched : List Instr := if f.cls = 10 then [.auxStatus f]
      else if f.cls = 9 ∧ f.src = inverterNode s.mge.params then [.driveStatus f] else []
    let passed := fun l : List GroupB => outcome = .next { s with upi.groupB := l, handed := s.handed ++ watched }
    let lost := outcome = .next { s with
      dec.err := tookCode s.dec.err .laneFull 3
      handed := s.handed ++ watched }
    (f.cls = 9 ∨ f.cls = 10 →
      (∀ pre g post, queue = pre ++ .status g :: post → g.src = f.src → g.cls = f.cls →
        (f.src, f.cls) ∉ waitingPairs pre → passed (pre ++ .status f :: post)) ∧
      ((f.src, f.cls) ∉ waitingPairs queue → queue.countP GroupB.isStatus < 16 → passed (queue ++ [.status f])) ∧
      ((f.src, f.cls) ∉ waitingPairs queue → 16 ≤ queue.countP GroupB.isStatus → lost)) ∧
    (f.cls = 6 ∨ 11 ≤ f.cls.toNat →
      (queue.countP GroupB.isOther < 8 → passed (queue ++ [.other f])) ∧
      (8 ≤ queue.countP GroupB.isOther → lost)) ∧
    (f.cls.toNat ≤ 5 ∨ f.cls = 7 ∨ f.cls = 8 → outcome = .next { s with
      dec.err := tookCode s.dec.err .classRefused 2 })

/-- R152, R153, R98: with Port D free, no hold and a lane non-empty, the grant goes by strict priority, but for a lane 2
that has waited through 16 grants; the lane's next frame starts on the wire, and TAU's cut frame is no longer waiting.
Otherwise no grant is made. -/
def Obligations.GrantByPriority : Prop :=
  ∀ s : State,
    let l := s.dec.lanes
    let second := lane2NonEmpty l = true
    let overdue := second ∧ 16 ≤ s.dec.grants
    (s.dec.sending ≠ none ∨ s.dec.held = true ∨ lanesNonEmpty l = false → exec .portDGrant s = .next s) ∧
    (s.dec.sending = none → s.dec.held = false →
      let starts := fun (f : Frame) (lane : Lane) (isCut : Bool) (rest : Lanes) (count : Nat) =>
        exec .portDGrant s = .next { s with
          dec.lanes := rest
          dec.grants := count
          dec.sending := some { wire := frameWire f, lane := lane, cut := isCut, orphan := false }
          tau.cutWaiting := if isCut then none else s.tau.cutWaiting }
      let count := if lane2NonEmpty l then s.dec.grants + 1 else 0
      (∀ f, l.cut = some f → ¬ overdue → starts f .safety true { l with cut := none } count) ∧
      (∀ f rest, l.cut = none → l.fifo0 = f :: rest → ¬ overdue →
        starts f .safety false { l with fifo0 := rest } count) ∧
      (∀ f, l.cut = none → l.fifo0 = [] → l.lane1 = some f → ¬ overdue →
        starts f .traction false { l with lane1 := none } count) ∧
      (overdue ∨ (l.cut = none ∧ l.fifo0 = [] ∧ l.lane1 = none) →
        (∀ i f rest, l.slots = (i, f) :: rest → starts f .general false { l with slots := rest } 0) ∧
        (∀ f rest, l.slots = [] → l.fifo2 = f :: rest → starts f .general false { l with fifo2 := rest } 0)))

/-- R154 to R156, R98: an end of transmission opens TAU's window after its cut frame, clears DRIVE_LINK_HELD once lane 0
is empty, and is followed by a grant; a hold stops grants and runs the hold timer while a lane is non-empty; its end is
followed by a grant; the expiry of the hold timer raises DRIVE_LINK_HELD and stays in force for the hold. That the end of a
hold judges DRIVE_LINK_HELD before its grant, and that the hold timer is judged once for each change of the lanes, are the
model's readings (DEDUCED, log entry 11). -/
def Obligations.HoldsAndEnds : Prop :=
  let cleared := fun s : State =>
    if s.dec.linkHeld = true ∧ s.dec.held = false ∧ lane0NonEmpty s.dec.lanes = false then
      { s with dec.linkHeld := false, handed := s.handed ++ [.alarmClear .driveLinkHeld] }
    else s
  (∀ (tx : PortDTx) (s : State), s.dec.sending = some tx →
    let s1 := if tx.cut = true ∧ tx.orphan = false then
        { s with dec.sending := none, tau.window := true, tau.tCut := some (tCut s.mge.params) }
      else { s with dec.sending := none }
    ∃ t, exec .portDTxEnd s = .next t ∧
      exec .portDGrant (if tx.lane = .safety ∧ tx.orphan = false then cleared s1 else s1) = .next t) ∧
  (∀ s : State, s.dec.held = false → exec .holdStart s = .next { s with
    dec.held := true
    dec.heldExpired := false
    dec.tHeld := if lanesNonEmpty s.dec.lanes then some (tHeld s.mge.params) else none }) ∧
  (∀ s : State, s.dec.held = true → ∃ t, exec .holdEnd s = .next t ∧ exec .portDGrant (cleared { s with
    dec.held := false
    dec.heldExpired := false
    dec.tHeld := none }) = .next t) ∧
  (∀ (n : Nat) (s : State), s.dec.tHeld = some n → exec .holdTimerExpiry s = .next { s with
    dec.tHeld := none
    dec.heldExpired := true
    dec.linkHeld := true
    handed := s.handed ++ [.alarmRaise .driveLinkHeld false] }) ∧
  ∀ (g : Lanes → Lanes) (s : State), LanesLegal s →
    (changeLanes g s).dec.tHeld =
      if s.dec.held = true ∧ lanesNonEmpty (g s.dec.lanes) = true ∧ s.dec.heldExpired = false then
        some (s.dec.tHeld.getD (tHeld s.mge.params))
      else none

/-- R159, R164: Port U takes the earliest frame of group A, or else of group B; a response entry that frees takes a
waiting segment; a notice after a loss carries the gap flag; while one is being sent none starts. -/
def Obligations.UpstreamStart : Prop :=
  ∀ s : State,
    (s.upi.sending ≠ none ∨ (s.upi.groupA = [] ∧ s.upi.groupB = []) → exec .upstreamTxStart s = .next s) ∧
    (s.upi.sending = none →
      (∀ key f rest, s.upi.groupA = .alarm key f :: rest → s.mge.toPlace = [] ∨ responseCount s = 4 →
        exec .upstreamTxStart s = .next { s with
          upi.groupA := rest
          upi.sending := some { wire := frameWire f, restart := false } }) ∧
      (∀ f r rest, s.upi.groupA = .response f r :: rest → responseCount s = 4 →
        exec .upstreamTxStart s = .next { s with
          upi.groupA := rest ++ (s.mge.toPlace.take 1).map (GroupA.response · false)
          mge.toPlace := s.mge.toPlace.drop 1
          upi.sending := some { wire := frameWire f, restart := r } }) ∧
      (∀ f r rest, s.upi.groupA = .response f r :: rest → s.mge.toPlace = [] →
        exec .upstreamTxStart s = .next { s with
          upi.groupA := rest
          upi.sending := some { wire := frameWire f, restart := r } }) ∧
      (∀ f rest, s.upi.groupA = [] → s.upi.groupB = .notice f :: rest →
        exec .upstreamTxStart s = .next { s with
          upi.groupB := rest
          upi.noticeLost := false
          upi.sending := some
            ⟨frameWire (if s.upi.noticeLost then { f with flags := f.flags ||| 1 } else f), false⟩ }) ∧
      (∀ x f rest, s.upi.groupA = [] → s.upi.groupB = x :: rest → x = .status f ∨ x = .other f →
        exec .upstreamTxStart s = .next { s with
          upi.groupB := rest
          upi.sending := some { wire := frameWire f, restart := false } }))

/-! ### The two resets -/

/-- R178, R17, R41, R55, R70, R88, R104, R130, R145, R160, R179: the end of the RESTART response puts every block at its
restart values, with the RESTARTED notice, the RESTART cut frame and the OFF commands placed; any other end only frees
Port U. The events in flight are gone (log entry 6); the entry time of an EMPTY slot is the model's choice (log entry
7). A frame met under way at power-on is still not received (log entry 8). -/
def Obligations.RestartTakesEffect : Prop :=
  ∀ (tx : PortUTx) (s : State), s.upi.sending = some tx →
    (tx.restart = false → exec .upstreamTxEnd s = .next { s with upi.sending := none }) ∧
    (tx.restart = true →
      let p := s.mge.params
      let view : View := { kind := .live, cap := defaultCap p, profile := 0, id := 0, known := false }
      let fresh := fun c : Channel =>
        { state := .unknown, mask := c.mask, prevAngle := none, suspect := 0, good := 0, last := none,
          lastDropActed := false, tSmp := some (tSmp p), tRaise := none, tRetr := none : Channel }
      let none_ : Slot := { state := .empty, cmd := none, tx := 0, entry := 0, tCmd := none, linePending := false }
      let record : BudgetRecord :=
        { mode := .unresolved, supply := aBatt p, auxCap := aBatt p, motoring := 0, regen := gBatt p, reservation := 0 }
      let load := fun i : LoadIx =>
        { state := .off, requested := false, admitted := none, order := none, minOn := none,
          minOff := if (loadRec s i).state = .on then startMin (auxEntry s i).minOff.toNat else (loadRec s i).minOff,
          joined := none, running := none : LoadRec }
      exec .upstreamTxEnd s = .next {
        ms := s.ms
        strap := s.strap
        found := s.found
        sct := { active := s.sct.active, shadow := none, pendingTbl := none, position := none, matched := none,
                 view := view, tPos := some (tPos p) }
        pwu := { chP := fresh s.pwu.chP, chN := fresh s.pwu.chN, active := s.pwu.active, shadow := none, view := view }
        pli := { slotP := none_, slotN := none_, seqP := none, seqN := none, err := { last := none, flags := 0 },
                 sending := s.pli.sending.map (fun x => { x with orphan := true }), lineBusy := s.pli.lineBusy,
                 underWay := s.pli.underWay, ackDriven := s.pli.ackDriven }
        smc := { mode := .unresolved, latch := false, noLine := none, exposed := false }
        cbu := { voltsP := 0, voltsN := 0, cap := defaultCap p, record := record, published := record }
        tau := { admitted := 0, requested := 0, record := record, tStale := none, cutWaiting := some .restart,
                 window := false, tCut := none, unconfirmed := false }
        axs := { active := s.axs.active, shadow := none, loads := Vector.ofFn load, joinOrder := [], reservation := 0,
                 record := record, orderCount := 0 }
        alm := []
        dec := { lanes :=
                   { cut := some (built s 0 (inverterNode p) [0, 0, 3]), fifo0 := [], lane1 := none,
                     slots := ((List.finRange 16).filter (fun i => (auxEntry s i).valid)).map
                       (fun i => (i, offCommand s (auxEntry s i) i)),
                     fifo2 := [] },
                 classMap := s.dec.classMap, shadow := none, grants := 0, held := s.dec.held,
                 tHeld := if s.dec.held then some (tHeld p) else none, heldExpired := false, linkHeld := false,
                 err := { last := none, flags := 0 },
                 sending := s.dec.sending.map (fun x => { x with orphan := true }), underWay := s.dec.underWay }
        upi := { err := { last := none, flags := 0 }, groupA := [], groupB := [.notice (built s 7 (reportNode p) [8])],
                 noticeLost := false, sending := none, underWay := s.upi.underWay }
        mge := { queue := [], orderCount := 0, toPlace := [], awaitRestart := false, openTable := none,
                 lock := s.mge.lock, params := p, shadow := none }
        handed := []
        pending := s.pending })

/-- R18, R42, R55, R70, R88, R105, R131, R145, R161, R174, R179: the values after power-on reset. The strap pins, the
hold's level and the queue are not the part's to reset, and the part's own frames in transmission are dropped (log entry
6). A frame that the input says is under way on a port, or whose end the part has not seen, is noted, and PLI waits for the
line to be idle after it (R55, R161; log entry 8). -/
def Obligations.PowerOnResetValues : Prop :=
  ∀ s : State, ∃ t, exec .powerOnReset s = .next t ∧ t.ms = 0 ∧ t.strap = s.strap ∧ t.found = s.found ∧ t.handed = [] ∧
    t.pending = s.pending ∧
    (∀ i : Fin 128, t.sct.active[i].valid = false) ∧
    (∃ table, t.sct.shadow = some table ∧ ∀ i : Fin 128, table[i].valid = false) ∧ t.sct.pendingTbl = none ∧
    t.sct.position = none ∧ t.sct.matched = none ∧ t.sct.view = ⟨.live, 500, 0, 0, false⟩ ∧ t.sct.tPos = some 2000 ∧
    t.pwu.chP = ⟨.unknown, .autonomous, none, 0, 0, none, false, some 10, none, none⟩ ∧ t.pwu.chN = t.pwu.chP ∧
    t.pwu.active = #v[⟨550, 40, 2, 80, 150⟩, ⟨620, 70, 3, 80, 150⟩, ⟨650, 50, 2, 80, 150⟩, ⟨550, 40, 2, 80, 150⟩] ∧
    t.pwu.shadow = some t.pwu.active ∧ t.pwu.view = t.sct.view ∧
    (∀ pole, slot t pole = ⟨.empty, none, 0, (slot t pole).entry, none, false⟩ ∧ lastSeq t pole = none) ∧
    t.pli.sending = none ∧ t.pli.underWay = (s.found.portS || s.pli.lineBusy) ∧ t.pli.lineBusy = t.pli.underWay ∧
    t.pli.err = ⟨none, 0⟩ ∧ t.smc = ⟨.unresolved, false, none, false⟩ ∧
    t.cbu.voltsP = 0 ∧ t.cbu.voltsN = 0 ∧ t.cbu.cap = 500 ∧ t.cbu.record = ⟨.unresolved, 150, 150, 0, 100, 0⟩ ∧
    t.cbu.published = t.cbu.record ∧ t.tau = ⟨0, 0, t.cbu.record, none, none, false, none, false⟩ ∧
    (∀ i, (auxEntry t i).valid = false ∧ loadRec t i = ⟨.off, false, none, none, none, none, none, none⟩) ∧
    (∃ table, t.axs.shadow = some table ∧ ∀ i : Fin 16, table[i].valid = false) ∧ t.axs.joinOrder = [] ∧
    t.axs.reservation = 0 ∧
    t.axs.record = t.cbu.record ∧ t.axs.orderCount = 0 ∧ t.alm = [] ∧
    t.dec.lanes = ⟨none, [], none, [], []⟩ ∧ t.dec.classMap = #v[0, 0, 0, 0, 0] ∧
    t.dec.shadow = some t.dec.classMap ∧ t.dec.grants = 0 ∧ t.dec.held = s.dec.held ∧ t.dec.tHeld = none ∧
    t.dec.linkHeld = false ∧ t.dec.err = ⟨none, 0⟩ ∧ t.dec.sending = none ∧
    t.dec.underWay = (s.found.portD || s.dec.underWay) ∧
    t.upi = ⟨⟨none, 0⟩, [], [], false, none, s.found.portU || s.upi.underWay⟩ ∧
    t.mge.queue = [] ∧ t.mge.toPlace = [] ∧ t.mge.awaitRestart = false ∧
    t.mge.openTable = none ∧ t.mge.lock = false ∧ t.mge.shadow = some t.mge.params ∧
    t.mge.params = #v[500, 400, 520, 250, 450, 720, 800, 400, 150, 100, 100, 40, 10, 1, 500, 10, 1, 200, 100, 100, 15,
      10, 4000, 3000, 2000, 50, 5000]

/-! ### The Management Engine -/

/-- R162, R163: a segment of a request in assembly is appended up to 128 bytes, or marks it over-length; one of no request
starts an entry where one of the four is free, and is else lost with LANE_FULL; without the continuation flag the request
is COMPLETE in the next order, with it T_seg runs. An expiry of T_seg discards the request with LENGTH. -/
def Obligations.SegmentsAssembled : Prop :=
  (∀ (f : Frame) (s : State),
    let s1 := { s with handed := s.handed.erase (.mgmtSegment f) }
    let more := f.flags.getLsbD 1
    let assembly : Assembly := if more then .assembling 100 else .complete s.mge.orderCount
    let placed := fun queue : List ReqEntry => exec (.mgmtSegment f) s = .next { s1 with
      mge.queue := queue
      mge.orderCount := if more then s.mge.orderCount else s.mge.orderCount + 1 }
    (∀ pre e post, s.mge.queue = pre ++ e :: post → assemblingOf f.src e = true →
      (∀ x ∈ pre, assemblingOf f.src x = false) →
      let long := e.overLength = true ∨ 128 < e.payload.length + f.payload.length
      (¬ long → placed (pre ++ { e with payload := e.payload ++ f.payload, assembly := assembly } :: post)) ∧
      (long → placed (pre ++ { e with overLength := true, assembly := assembly } :: post))) ∧
    ((∀ x ∈ s.mge.queue, assemblingOf f.src x = false) →
      (s.mge.queue.length < 4 → placed (s.mge.queue ++ [⟨f.src, f.payload, false, assembly⟩])) ∧
      (4 ≤ s.mge.queue.length → exec (.mgmtSegment f) s = .next { s1 with
        upi.err := tookCode s.upi.err .laneFull 3 }))) ∧
  ∀ (source : Node) (s : State), (∃ e ∈ s.mge.queue, assemblingOf source e = true) →
    exec (.tSegExpiry source) s = .next { s with
      mge.queue := s.mge.queue.filter (fun e => !assemblingOf source e)
      upi.err := tookCode s.upi.err .length 1 }

/-- R164: no request is taken while MGE is not free, no response entry is unoccupied, or another COMPLETE entry comes
first; the earliest COMPLETE entry leaves the queue as it is taken. A request that finds no COMPLETE entry completes as
it is taken (log entry 4). R165, case 1: an over-length request with a known code is BAD_FIELD. -/
def Obligations.RequestsTakenInOrder : Prop :=
  ∀ (code : ReqCode) (q : Request) (s : State),
    let payload := reqCodeNum code :: q.args
    let free := s.mge.toPlace = [] ∧ s.mge.awaitRestart = false ∧ responseCount s < 4
    (¬ free → exec (requestCmd code q) s = .next s) ∧
    (∀ e n, e ∈ s.mge.queue → completeOrder e = some n →
      (∀ x ∈ s.mge.queue, x ≠ e → ∀ k, completeOrder x = some k → n < k) →
      (e.source = q.source ∧ e.payload = payload ∧ e.overLength = q.overLength → free →
        Taken code q s { s with mge.queue := s.mge.queue.erase e }) ∧
      (¬ (e.source = q.source ∧ e.payload = payload ∧ e.overLength = q.overLength) →
        exec (requestCmd code q) s = .next s)) ∧
    ((∀ x ∈ s.mge.queue, completeOrder x = none) → free → Taken code q s s) ∧
    ∀ s1, Taken code q s s1 → q.overLength = true → Answered code q s .badField [] s1

/-- R164, R187: a response is its request's code, its status and its fields, cut into segments of at most 32 bytes, each but
the last with the continuation flag, to the source of the request; as many as there are response entries free are placed,
and the rest wait. -/
def Obligations.ResponsePlaced : Prop :=
  ∀ (dst : Node) (echo : Byte) (reply : Reply) (s : State), ∃ parts : List (List Byte),
    parts.flatten = echo :: statusCode reply.status :: reply.fields ∧
    (∀ p ∈ parts.dropLast, p.length = 32) ∧ (∃ p, parts.getLast? = some p ∧ 1 ≤ p.length ∧ p.length ≤ 32) ∧
    let frame := fun (flags : BitVec 4) (p : List Byte) => { built s 6 dst p with flags := flags }
    let segments := parts.dropLast.map (frame 2) ++ parts.getLast?.toList.map (frame 0)
    respond dst echo reply s = { s with
      upi.groupA := s.upi.groupA ++ (segments.take (4 - responseCount s)).map (GroupA.response · false)
      mge.toPlace := segments.drop (4 - responseCount s) }

/-- R166, R168, R171, R134: the reading requests answer the values as they stand, byte for byte in the layouts of R185 to R188,
and in the codes of R189, and change nothing but the error flags that READ_ERRORS names, which it clears after it has read
them; wrong fields are BAD_FIELD (R165), and a table read past the end BAD_INDEX. The request is taken as log entry 4 says. -/
def Obligations.ReadRequestsAnswered : Prop :=
  CodesAsListed ∧
  ∀ (q : Request) (s s1 : State), q.overLength = false →
    (∀ code layout, (code, layout) ∈ [(ReqCode.readIdent, identLayout s), (.readState, stateLayout s),
        (.readLoads, loadsLayout s), (.readAlarms, alarmsLayout s)] → Taken code q s s1 →
      (q.args = [] → ∃ fields, Carries fields layout ∧ Answered code q s .ok fields s1) ∧
      (q.args ≠ [] → Answered code q s .badField [] s1)) ∧
    (Taken .readErrors q s s1 →
      (∀ m2 m1 m0, q.args = [m2, m1, m0] →
        let mask : BitVec 24 := m2 ++ m1 ++ m0
        ∃ fields, Carries fields (errLayout s.upi.err ++ errLayout s.dec.err ++ errLayout s.pli.err) ∧
          Answered .readErrors q s .ok fields { s1 with
          upi.err.flags := s.upi.err.flags &&& ~~~(mask.extractLsb' 0 6)
          dec.err.flags := s.dec.err.flags &&& ~~~(mask.extractLsb' 6 6)
          pli.err.flags := s.pli.err.flags &&& ~~~(mask.extractLsb' 12 6) }) ∧
      (q.args.length ≠ 3 → Answered .readErrors q s .badField [] s1)) ∧
    (Taken .tableRead q s s1 →
      (∀ table start count, q.args = [tableCode table, start, count] → 1 ≤ count.toNat → count.toNat ≤ 8 →
        if start.toNat + count.toNat ≤ tableCapacity table then
          ∃ entries, Carries entries ((List.range count.toNat).flatMap fun k => entryLayout table (start.toNat + k) s) ∧
            Answered .tableRead q s .ok ([tableCode table, start, count] ++ entries) s1
        else Answered .tableRead q s .badIndex [] s1) ∧
      (q.args.length ≠ 3 ∨ (∃ c ∈ q.args.head?, 4 < c.toNat) ∨ (∃ n ∈ q.args[2]?, n.toNat < 1 ∨ 8 < n.toNat) →
        Answered .tableRead q s .badField [] s1))

/-- R34, R35, R20: POLE_RAISE answers BUSY, WRONG_SECTION or OK, in this order, and raises the poles it names; POLE_LOWER
answers BUSY or OK and lowers those of its poles that are on the wire or raising; SET_ACT_MASK answers LOCKED, BUSY or OK
and sets the mask. The reports of a request for both poles are P before N (DESIGN CHOICE, log entry 23). -/
def Obligations.PoleRequestsAnswered : Prop :=
  ∀ (q : Request) (sel : Byte) (poles : List Pole) (s s1 : State), q.overLength = false →
    (sel, poles) ∈ [((1 : Byte), [Pole.p]), (2, [.n]), (3, [.p, .n])] →
    let stowed := ∀ pole ∈ poles, (channel s pole).state = .stowed
    let gap := s.pwu.view.kind = .insulator ∨ s.pwu.view.kind = .wireless
    let up := fun pole => (channel s pole).state = .onWire ∨ (channel s pole).state = .suspect ∨
      (channel s pole).state = .raising
    let blocked := ∃ pole ∈ poles, ¬ up pole ∧ (channel s pole).state ≠ .stowed
    let moved := fun (moving : List Pole) (state : PoleState) (t : State) =>
      (∀ pole, pole ∉ moving → channel t pole = channel s pole ∧ slot t pole = slot s pole) ∧
      t.pwu = { s.pwu with chP := t.pwu.chP, chN := t.pwu.chN } ∧
      t.pli = { s.pli with slotP := t.pli.slotP, slotN := t.pli.slotN } ∧
      t = { s1 with pwu := t.pwu, pli := t.pli,
                    handed := s1.handed ++ moving.map (fun pole => .poleReport pole state true) }
    (Taken .poleRaise q s s1 → q.args = [sel] →
      (¬ stowed ∨ s.smc.mode = .dewired → Answered .poleRaise q s .busy [] s1) ∧
      (stowed → s.smc.mode ≠ .dewired → gap → Answered .poleRaise q s .wrongSection [] s1) ∧
      (stowed → s.smc.mode ≠ .dewired → ¬ gap → ∃ t, Answered .poleRaise q s .ok [] t ∧ moved poles .raising t ∧
        ∀ pole ∈ poles, slot t pole = commanded .release pole s ∧ channel t pole = { channel s pole with
          state := .raising
          good := 0
          tRaise := some (tRaise s.mge.params) })) ∧
    (Taken .poleLower q s s1 → q.args = [sel] →
      (blocked → Answered .poleLower q s .busy [] s1) ∧
      (¬ blocked → ∃ moving t, moving.Sublist poles ∧ (∀ pole, pole ∈ moving ↔ pole ∈ poles ∧ up pole) ∧
        Answered .poleLower q s .ok [] t ∧ moved moving .lowering t ∧
        ∀ pole ∈ moving, slot t pole = commanded .pullDown pole s ∧ channel t pole = { channel s pole with
          state := .lowering
          suspect := 0
          good := 0
          tRaise := none
          tRetr := some (tRetr s.mge.params) })) ∧
    (Taken .setActMask q s s1 → ∀ pole m mask, poles = [pole] → actMaskOf m = some mask → q.args = [sel, m] →
      let busy := (channel s pole).state = .dropped ∨ (channel s pole).state = .retrieving
      (s.mge.lock = true → Answered .setActMask q s .locked [] s1) ∧
      (s.mge.lock = false → busy → Answered .setActMask q s .busy [] s1) ∧
      (s.mge.lock = false → ¬ busy → Answered .setActMask q s .ok []
        (setChannel pole { channel s pole with mask := mask } s1))) ∧
    (∀ code args, (code, args) ∈ [(ReqCode.poleRaise, 1), (.poleLower, 1), (.setActMask, 2)] → Taken code q s s1 →
      q.args.length ≠ args ∨ (∃ c ∈ q.args.head?, c = 0 ∨ 3 < c.toNat ∨ (c = 3 ∧ code = .setActMask)) ∨
        (∃ m ∈ q.args[1]?, 1 < m.toNat) → Answered code q s .badField [] s1)

/-- R188, R184: every table entry reads back from its own bytes, in 12, 9, 8, 2 and 1 bytes; and the bytes of a current are
read back as the current, from -1023 to 1023. -/
def Obligations.EntriesReadBackAsWritten : Prop :=
  (∀ e, (sectionEntryBytes e).length = 12 ∧ readSectionEntry (sectionEntryBytes e) = some e) ∧
  (∀ e, (auxEntryBytes e).length = 9 ∧ readAuxEntry (auxEntryBytes e) = some e) ∧
  (∀ e, (profileEntryBytes e).length = 8 ∧ readProfileEntry (profileEntryBytes e) = some e) ∧
  (∀ e, (be16 e).length = 2 ∧ readParamEntry (be16 e) = some e) ∧ (∀ e, readClassEntry [e] = some e) ∧
  (∀ (a b : SectionEntry) (v : Byte) (rest : List Byte), sectionEntryBytes a = v :: rest →
    readSectionEntry ((v ||| 0xFE) :: rest) = some a ∧ (sectionEntryBytes a = sectionEntryBytes b → a = b)) ∧
  ∀ i : Int, -1023 ≤ i → i ≤ 1023 → currentPayload (signed16 i) = some i

/-- R169, R170: TABLE_OPEN answers BUSY, LOCKED or OK and copies the active table into the shadow; TABLE_WRITE answers
BAD_FIELD, NOT_OPEN, NOT_OWNER, BAD_INDEX, BAD_FIELD or OK, in this order, and stores its entries whole, restarting
T_open. -/
def Obligations.TableOpenedAndWritten : Prop :=
  (∀ (q : Request) (table : TableId) (s s1 : State), q.overLength = false → Taken .tableOpen q s s1 →
    q.args = [tableCode table] →
    let locked := s.mge.lock = true ∧ table ≠ .sections ∧ table ≠ .aux
    let waits := table = .sections ∧ s.sct.pendingTbl ≠ none
    let o : OpenTable := { table := table, owner := q.source, tOpen := tOpen s.mge.params }
    (s.mge.openTable ≠ none → Answered .tableOpen q s .busy [] s1) ∧
    (s.mge.openTable = none → locked → Answered .tableOpen q s .locked [] s1) ∧
    (s.mge.openTable = none → ¬ locked → waits → Answered .tableOpen q s .busy [] s1) ∧
    (s.mge.openTable = none → ¬ locked → ¬ waits → Answered .tableOpen q s .ok [] { s1 with
      sct.shadow := if table = .sections then some s.sct.active else s.sct.shadow
      axs.shadow := if table = .aux then some s.axs.active else s.axs.shadow
      pwu.shadow := if table = .profile then some s.pwu.active else s.pwu.shadow
      dec.shadow := if table = .classMap then some s.dec.classMap else s.dec.shadow
      mge.shadow := if table = .parameter then some s.mge.params else s.mge.shadow
      mge.openTable := some o })) ∧
  (∀ (q : Request) (table : TableId) (start count : Byte) (data : List Byte) (s s1 : State), q.overLength = false →
    Taken .tableWrite q s s1 → q.args = tableCode table :: start :: count :: data →
    let formed := 1 ≤ count.toNat ∧ count.toNat ≤ 8 ∧ data.length = count.toNat * tableEntryBytes table
    (¬ formed → Answered .tableWrite q s .badField [] s1) ∧
    (formed → s.mge.openTable.map OpenTable.table ≠ some table → Answered .tableWrite q s .notOpen [] s1) ∧
    ∀ o, formed → s.mge.openTable = some o → o.table = table →
      (o.owner ≠ q.source → Answered .tableWrite q s .notOwner [] s1) ∧
      (o.owner = q.source → tableCapacity table < start.toNat + count.toNat →
        Answered .tableWrite q s .badIndex [] s1)) ∧
  (∀ (code : ReqCode) (q : Request) (s s1 : State), q.overLength = false → Taken code q s s1 →
    (code = .tableOpen ∨ code = .tableCommit ∨ code = .tableAbandon) ∧
        (q.args.length ≠ 1 ∨ ∃ c ∈ q.args.head?, 4 < c.toNat) ∨
      code = .tableWrite ∧ (q.args.length < 3 ∨ ∃ c ∈ q.args.head?, 4 < c.toNat) →
    Answered code q s .badField [] s1) ∧
  Written .sections sectionEntryBytes sectionWriteRefused (fun s => s.sct.shadow)
    (fun v s => { s with sct.shadow := some v }) ∧
  Written .aux auxEntryBytes auxWriteRefused (fun s => s.axs.shadow) (fun v s => { s with axs.shadow := some v }) ∧
  Written .profile profileEntryBytes profileWriteRefused (fun s => s.pwu.shadow)
    (fun v s => { s with pwu.shadow := some v }) ∧
  Written .parameter be16 (fun _ => false) (fun s => s.mge.shadow) (fun v s => { s with mge.shadow := some v }) ∧
  Written .classMap (fun c => [c]) (fun _ => false) (fun s => s.dec.shadow) (fun v s => { s with dec.shadow := some v })

/-- R172, R14, R22, R128, R157, R176: TABLE_COMMIT answers NOT_OPEN, NOT_OWNER, INVALID_TABLE with the first failing index
and T_open restarted, DEFERRED in a gap, or OK with the shadow made active and what the owner's rule then asks for. For the aux
table that is R128: the loads whose entries are now invalid go OFF by their old entries, in load ID order (log entry 24) and
with their notices (log entry 13), R is summed anew, loads are excluded and shed as planned, an admission pass runs, and a
changed R is handed over. -/
def Obligations.TableCommitted : Prop :=
  ∀ (q : Request) (table : TableId) (s s1 : State), q.overLength = false → Taken .tableCommit q s s1 →
    q.args = [tableCode table] →
    (s.mge.openTable.map OpenTable.table ≠ some table → Answered .tableCommit q s .notOpen [] s1) ∧
    ∀ o, s.mge.openTable = some o → o.table = table →
      let closed := { s1 with mge.openTable := none }
      (o.owner ≠ q.source → Answered .tableCommit q s .notOwner [] s1) ∧
      (∀ i, o.owner = q.source → firstBad table s = some i →
        Answered .tableCommit q s .invalidTable [BitVec.ofNat 8 i] { s1 with
          mge.openTable := some { o with tOpen := tOpen s.mge.params } }) ∧
      (o.owner = q.source → firstBad table s = none →
        (∀ new, table = .sections → s.sct.shadow = some new →
          (isGap s.sct.view.kind = true →
            Answered .tableCommit q s .deferred [] { closed with sct.pendingTbl := some new }) ∧
          (isGap s.sct.view.kind = false → s.sct.position = none →
            Answered .tableCommit q s .ok [] { closed with sct.active := new }) ∧
          ∀ route c, isGap s.sct.view.kind = false → s.sct.position = some (route, c) →
            let m := lookupSection new route c
            let v := viewOfMatch s.mge.params new m
            let after := { closed with sct.active := new, sct.matched := m, sct.view := v }
            Answered .tableCommit q s .ok [] (if v = s.sct.view then after
              else placeNotice (1 :: viewBlock v (some (route, c)) m) { after with
                handed := closed.handed ++ [.sectionViewAtSmc v, .sectionViewAtCbu v, .sectionViewAtPwu v] })) ∧
        (∀ new, table = .aux → s.axs.shadow = some new → LoadsLegal s →
          ∃ s2 s3 t, Answered .tableCommit q s .ok [] t ∧ RetiredBy s.axs.active { closed with axs.active := new } s2 ∧
            ShedBy (shedPlan s2) s2 s3 ∧ Passed s3 { t with handed := s3.handed } ∧ HandsReservation s1.handed s t ∧
            t.axs.active = new ∧ t.axs.reservation = onSum t ∧ LoadsWithinRecord t ∧
            (∀ i, new[i].valid = false → (loadRec t i).state = .off ∧ (loadRec t i).requested = false) ∧
            t = { closed with axs := t.axs, dec.lanes := t.dec.lanes, dec.tHeld := t.dec.tHeld, upi := t.upi,
                              handed := t.handed }) ∧
        (∀ new, table = .profile → s.pwu.shadow = some new →
          Answered .tableCommit q s .ok [] { closed with pwu.active := new }) ∧
        (∀ new, table = .parameter → s.mge.shadow = some new → Answered .tableCommit q s .ok [] { closed with
          mge.params := new
          handed := closed.handed ++ [.sctParameterCommit, .cbuParameterCommit, .axsParameterCommit] }) ∧
        (∀ new, table = .classMap → s.dec.shadow = some new →
          Answered .tableCommit q s .ok [] { closed with dec.classMap := new }))

/-- R173, R177: an open table is abandoned by its owner's TABLE_ABANDON, by the expiry of T_open and, for tables 2 to 4, by
the settings lock, with its notice and its shadow discarded; the lock makes both act masks AUTONOMOUS and acts on a
report-only DROPPED pole at once, whose good count stays as it was (DEDUCED, log entry 20). With both poles acted on, P is
before N (DESIGN CHOICE, log entry 23). -/
def Obligations.TableAbandonedAndLock : Prop :=
  let dropped := fun (o : OpenTable) (cause : Byte) (s : State) =>
    placeNotice [7, tableCode o.table, o.owner.setWidth 8, cause]
      (discardShadow o.table { s with mge.openTable := none })
  (∀ (o : OpenTable) (s : State), s.mge.openTable = some o → exec .tOpenExpiry s = .next (dropped o 2 s)) ∧
  (∀ (q : Request) (table : TableId) (s s1 : State), q.overLength = false → Taken .tableAbandon q s s1 →
    q.args = [tableCode table] →
    (s.mge.openTable.map OpenTable.table ≠ some table → Answered .tableAbandon q s .notOpen [] s1) ∧
    ∀ o, s.mge.openTable = some o → o.table = table →
      (o.owner ≠ q.source → Answered .tableAbandon q s .notOwner [] s1) ∧
      (o.owner = q.source → Answered .tableAbandon q s .ok [] (dropped o 1 s1))) ∧
  ∀ (q : Request) (s s1 : State), q.overLength = false → Taken .lockSettings q s s1 →
    (q.args ≠ [] → Answered .lockSettings q s .badField [] s1) ∧
    (q.args = [] → s.mge.lock = true → Answered .lockSettings q s .ok [] s1) ∧
    (q.args = [] → s.mge.lock = false → ∃ s2 t, Answered .lockSettings q s .ok [] t ∧
      (s.mge.openTable = none → s2 = s1) ∧
      (∀ o, s.mge.openTable = some o →
        s2 = if o.table = .sections ∨ o.table = .aux then s1 else dropped o 3 s1) ∧
      let acts := fun pole => (channel s pole).state = .dropped ∧ (channel s pole).mask = .reportOnly
      (∀ pole, ¬ acts pole →
        channel t pole = { channel s pole with mask := .autonomous } ∧ slot t pole = slot s pole) ∧
      (∀ pole, acts pole → slot t pole = commanded .pullDown pole s ∧ channel t pole = { channel s pole with
        mask := .autonomous
        state := .retrieving
        lastDropActed := true
        tRetr := some (tRetr s.mge.params) }) ∧
      (∃ first second : Bool, (first = true ↔ acts .p) ∧ (second = true ↔ acts .n) ∧
        t.handed = s1.handed ++
          (if first then [.alarmRaise (.poleDrop .p) true, .poleReport .p .retrieving true] else []) ++
          (if second then [.alarmRaise (.poleDrop .n) true, .poleReport .n .retrieving true] else [])) ∧
      t = { s2 with
        pwu.chP := t.pwu.chP, pwu.chN := t.pwu.chN, pli.slotP := t.pli.slotP, pli.slotN := t.pli.slotN
        mge.lock := true, handed := t.handed })

/-- R178: RESTART without fields places its OK response and MGE waits; with fields it is BAD_FIELD. R165, cases 2 and 3: a
payload of no bytes is answered BAD_FIELD with the code 0, and one with an unknown code UNKNOWN_REQUEST, or BAD_FIELD
where it is over-length, with that code. -/
def Obligations.RestartAndUnknownRequests : Prop :=
  (∀ (q : Request) (s s1 : State), Taken .restart q s s1 →
    (q.args ≠ [] ∨ q.overLength = true → Answered .restart q s .badField [] s1) ∧
    (q.args = [] → q.overLength = false → exec (.restart q) s = .next { s1 with
      upi.groupA := s1.upi.groupA ++ [.response (built s 6 q.source [16, 0]) true]
      mge.awaitRestart := true })) ∧
  ∀ (q : Request) (s s1 : State), takeRequest q.args q s = some s1 →
    (q.args = [] → exec (.unknownRequest q) s = .next (respond q.source 0 (plain .badField) s1)) ∧
    ∀ c rest, q.args = c :: rest → c = 0 ∨ 16 < c.toNat →
      exec (.unknownRequest q) s = .next (respond q.source c
        (plain (if q.overLength then .badField else .unknownRequest)) s1)

/-! ### Invariants -/

/-- R132, R133: the alarm list stays legal under every step. -/
def Obligations.AlarmsStayLegal : Prop := ∀ s t : State, AlarmsLegal s → step s = .next t → AlarmsLegal t

/-- R56, R61, R77, R79: the supply mode's latch and timer, and the budget record, stay legal under every step. -/
def Obligations.SupplyAndBudgetStayLegal : Prop :=
  (∀ s t : State, SupplyLegal s → step s = .next t → SupplyLegal t) ∧
  ∀ s t : State, BudgetLegal s → step s = .next t → BudgetLegal t

/-- R19, R30, R32, R33, R57, R177: the pole channels stay legal under every step, and under the settings lock both act
masks stay AUTONOMOUS. -/
def Obligations.PolesStayLegal : Prop := ∀ s t : State, PolesLegal s → step s = .next t → PolesLegal t

/-- R89, R92, R96: the admitted demand stays within the record in use, and the cut slot and T_cut follow TAU, under every
step. -/
def Obligations.TractionStaysLegal : Prop := ∀ s t : State, TractionLegal s → step s = .next t → TractionLegal t

/-- R107 to R109, R113, R118: the reservation stays the sum of the ON loads' nominal currents, and every load's record
stays legal, under every step. -/
def Obligations.LoadsStayLegal : Prop := ∀ s t : State, LoadsLegal s → step s = .next t → LoadsLegal t

/-- R150, R152, R156, R158, R162, R164: the lanes, the hold timer, the upstream queue and the request queue stay within
their bounds under every step. -/
def Obligations.QueuesStayLegal : Prop :=
  (∀ s t : State, LanesLegal s → step s = .next t → LanesLegal t) ∧
  ∀ s t : State, QueuesLegal s → step s = .next t → QueuesLegal t

/-- R13, R15, R22, R127, R157, R172, R175: every active table stays one that its owner's walk passes, under every step. -/
def Obligations.TablesStayValid : Prop := ∀ s t : State, TablesLegal s → step s = .next t → TablesLegal t

/-- The state after reset is legal in every block. -/
def Obligations.ResetIsLegal : Prop := Legal State.reset
end

