-- ==== Sys2Proof/Laws/State.lean ====
section
/-! SUPPORT. What the named operations leave unchanged, field by field: one lemma per operation and field of State that the
operation does not write. -/

namespace Sys2Proof.Machine

variable (s : State)

/-! `hand` writes only `handed`. -/

@[simp] theorem hand_ms (e : List Instr) : (hand e s).ms = s.ms := rfl
@[simp] theorem hand_strap (e : List Instr) : (hand e s).strap = s.strap := rfl
@[simp] theorem hand_found (e : List Instr) : (hand e s).found = s.found := rfl
@[simp] theorem hand_sct (e : List Instr) : (hand e s).sct = s.sct := rfl
@[simp] theorem hand_pwu (e : List Instr) : (hand e s).pwu = s.pwu := rfl
@[simp] theorem hand_pli (e : List Instr) : (hand e s).pli = s.pli := rfl
@[simp] theorem hand_smc (e : List Instr) : (hand e s).smc = s.smc := rfl
@[simp] theorem hand_cbu (e : List Instr) : (hand e s).cbu = s.cbu := rfl
@[simp] theorem hand_tau (e : List Instr) : (hand e s).tau = s.tau := rfl
@[simp] theorem hand_axs (e : List Instr) : (hand e s).axs = s.axs := rfl
@[simp] theorem hand_alm (e : List Instr) : (hand e s).alm = s.alm := rfl
@[simp] theorem hand_dec (e : List Instr) : (hand e s).dec = s.dec := rfl
@[simp] theorem hand_upi (e : List Instr) : (hand e s).upi = s.upi := rfl
@[simp] theorem hand_mge (e : List Instr) : (hand e s).mge = s.mge := rfl
@[simp] theorem hand_pending (e : List Instr) : (hand e s).pending = s.pending := rfl

/-! `taken` writes only `handed`. -/

@[simp] theorem taken_ms (c : Instr) : (taken c s).ms = s.ms := rfl
@[simp] theorem taken_strap (c : Instr) : (taken c s).strap = s.strap := rfl
@[simp] theorem taken_found (c : Instr) : (taken c s).found = s.found := rfl
@[simp] theorem taken_sct (c : Instr) : (taken c s).sct = s.sct := rfl
@[simp] theorem taken_pwu (c : Instr) : (taken c s).pwu = s.pwu := rfl
@[simp] theorem taken_pli (c : Instr) : (taken c s).pli = s.pli := rfl
@[simp] theorem taken_smc (c : Instr) : (taken c s).smc = s.smc := rfl
@[simp] theorem taken_cbu (c : Instr) : (taken c s).cbu = s.cbu := rfl
@[simp] theorem taken_tau (c : Instr) : (taken c s).tau = s.tau := rfl
@[simp] theorem taken_axs (c : Instr) : (taken c s).axs = s.axs := rfl
@[simp] theorem taken_alm (c : Instr) : (taken c s).alm = s.alm := rfl
@[simp] theorem taken_dec (c : Instr) : (taken c s).dec = s.dec := rfl
@[simp] theorem taken_upi (c : Instr) : (taken c s).upi = s.upi := rfl
@[simp] theorem taken_mge (c : Instr) : (taken c s).mge = s.mge := rfl
@[simp] theorem taken_pending (c : Instr) : (taken c s).pending = s.pending := rfl

/-! `errorU` writes only `upi`. -/

@[simp] theorem errorU_ms (c : ErrCode) : (errorU c s).ms = s.ms := rfl
@[simp] theorem errorU_strap (c : ErrCode) : (errorU c s).strap = s.strap := rfl
@[simp] theorem errorU_found (c : ErrCode) : (errorU c s).found = s.found := rfl
@[simp] theorem errorU_sct (c : ErrCode) : (errorU c s).sct = s.sct := rfl
@[simp] theorem errorU_pwu (c : ErrCode) : (errorU c s).pwu = s.pwu := rfl
@[simp] theorem errorU_pli (c : ErrCode) : (errorU c s).pli = s.pli := rfl
@[simp] theorem errorU_smc (c : ErrCode) : (errorU c s).smc = s.smc := rfl
@[simp] theorem errorU_cbu (c : ErrCode) : (errorU c s).cbu = s.cbu := rfl
@[simp] theorem errorU_tau (c : ErrCode) : (errorU c s).tau = s.tau := rfl
@[simp] theorem errorU_axs (c : ErrCode) : (errorU c s).axs = s.axs := rfl
@[simp] theorem errorU_alm (c : ErrCode) : (errorU c s).alm = s.alm := rfl
@[simp] theorem errorU_dec (c : ErrCode) : (errorU c s).dec = s.dec := rfl
@[simp] theorem errorU_mge (c : ErrCode) : (errorU c s).mge = s.mge := rfl
@[simp] theorem errorU_handed (c : ErrCode) : (errorU c s).handed = s.handed := rfl
@[simp] theorem errorU_pending (c : ErrCode) : (errorU c s).pending = s.pending := rfl

/-! `errorD` writes only `dec`. -/

@[simp] theorem errorD_ms (c : ErrCode) : (errorD c s).ms = s.ms := rfl
@[simp] theorem errorD_strap (c : ErrCode) : (errorD c s).strap = s.strap := rfl
@[simp] theorem errorD_found (c : ErrCode) : (errorD c s).found = s.found := rfl
@[simp] theorem errorD_sct (c : ErrCode) : (errorD c s).sct = s.sct := rfl
@[simp] theorem errorD_pwu (c : ErrCode) : (errorD c s).pwu = s.pwu := rfl
@[simp] theorem errorD_pli (c : ErrCode) : (errorD c s).pli = s.pli := rfl
@[simp] theorem errorD_smc (c : ErrCode) : (errorD c s).smc = s.smc := rfl
@[simp] theorem errorD_cbu (c : ErrCode) : (errorD c s).cbu = s.cbu := rfl
@[simp] theorem errorD_tau (c : ErrCode) : (errorD c s).tau = s.tau := rfl
@[simp] theorem errorD_axs (c : ErrCode) : (errorD c s).axs = s.axs := rfl
@[simp] theorem errorD_alm (c : ErrCode) : (errorD c s).alm = s.alm := rfl
@[simp] theorem errorD_upi (c : ErrCode) : (errorD c s).upi = s.upi := rfl
@[simp] theorem errorD_mge (c : ErrCode) : (errorD c s).mge = s.mge := rfl
@[simp] theorem errorD_handed (c : ErrCode) : (errorD c s).handed = s.handed := rfl
@[simp] theorem errorD_pending (c : ErrCode) : (errorD c s).pending = s.pending := rfl

/-! `errorS` writes only `pli`. -/

@[simp] theorem errorS_ms (c : ErrCode) : (errorS c s).ms = s.ms := rfl
@[simp] theorem errorS_strap (c : ErrCode) : (errorS c s).strap = s.strap := rfl
@[simp] theorem errorS_found (c : ErrCode) : (errorS c s).found = s.found := rfl
@[simp] theorem errorS_sct (c : ErrCode) : (errorS c s).sct = s.sct := rfl
@[simp] theorem errorS_pwu (c : ErrCode) : (errorS c s).pwu = s.pwu := rfl
@[simp] theorem errorS_smc (c : ErrCode) : (errorS c s).smc = s.smc := rfl
@[simp] theorem errorS_cbu (c : ErrCode) : (errorS c s).cbu = s.cbu := rfl
@[simp] theorem errorS_tau (c : ErrCode) : (errorS c s).tau = s.tau := rfl
@[simp] theorem errorS_axs (c : ErrCode) : (errorS c s).axs = s.axs := rfl
@[simp] theorem errorS_alm (c : ErrCode) : (errorS c s).alm = s.alm := rfl
@[simp] theorem errorS_dec (c : ErrCode) : (errorS c s).dec = s.dec := rfl
@[simp] theorem errorS_upi (c : ErrCode) : (errorS c s).upi = s.upi := rfl
@[simp] theorem errorS_mge (c : ErrCode) : (errorS c s).mge = s.mge := rfl
@[simp] theorem errorS_handed (c : ErrCode) : (errorS c s).handed = s.handed := rfl
@[simp] theorem errorS_pending (c : ErrCode) : (errorS c s).pending = s.pending := rfl

/-! `changeLanes` writes only `dec`. -/

@[simp] theorem changeLanes_ms (f : Lanes → Lanes) : (changeLanes f s).ms = s.ms := rfl
@[simp] theorem changeLanes_strap (f : Lanes → Lanes) : (changeLanes f s).strap = s.strap := rfl
@[simp] theorem changeLanes_found (f : Lanes → Lanes) : (changeLanes f s).found = s.found := rfl
@[simp] theorem changeLanes_sct (f : Lanes → Lanes) : (changeLanes f s).sct = s.sct := rfl
@[simp] theorem changeLanes_pwu (f : Lanes → Lanes) : (changeLanes f s).pwu = s.pwu := rfl
@[simp] theorem changeLanes_pli (f : Lanes → Lanes) : (changeLanes f s).pli = s.pli := rfl
@[simp] theorem changeLanes_smc (f : Lanes → Lanes) : (changeLanes f s).smc = s.smc := rfl
@[simp] theorem changeLanes_cbu (f : Lanes → Lanes) : (changeLanes f s).cbu = s.cbu := rfl
@[simp] theorem changeLanes_tau (f : Lanes → Lanes) : (changeLanes f s).tau = s.tau := rfl
@[simp] theorem changeLanes_axs (f : Lanes → Lanes) : (changeLanes f s).axs = s.axs := rfl
@[simp] theorem changeLanes_alm (f : Lanes → Lanes) : (changeLanes f s).alm = s.alm := rfl
@[simp] theorem changeLanes_upi (f : Lanes → Lanes) : (changeLanes f s).upi = s.upi := rfl
@[simp] theorem changeLanes_mge (f : Lanes → Lanes) : (changeLanes f s).mge = s.mge := rfl
@[simp] theorem changeLanes_handed (f : Lanes → Lanes) : (changeLanes f s).handed = s.handed := rfl
@[simp] theorem changeLanes_pending (f : Lanes → Lanes) : (changeLanes f s).pending = s.pending := rfl

/-! `placeSegments` writes only `upi`, `mge`. -/

@[simp] theorem placeSegments_ms : (placeSegments s).ms = s.ms := rfl
@[simp] theorem placeSegments_strap : (placeSegments s).strap = s.strap := rfl
@[simp] theorem placeSegments_found : (placeSegments s).found = s.found := rfl
@[simp] theorem placeSegments_sct : (placeSegments s).sct = s.sct := rfl
@[simp] theorem placeSegments_pwu : (placeSegments s).pwu = s.pwu := rfl
@[simp] theorem placeSegments_pli : (placeSegments s).pli = s.pli := rfl
@[simp] theorem placeSegments_smc : (placeSegments s).smc = s.smc := rfl
@[simp] theorem placeSegments_cbu : (placeSegments s).cbu = s.cbu := rfl
@[simp] theorem placeSegments_tau : (placeSegments s).tau = s.tau := rfl
@[simp] theorem placeSegments_axs : (placeSegments s).axs = s.axs := rfl
@[simp] theorem placeSegments_alm : (placeSegments s).alm = s.alm := rfl
@[simp] theorem placeSegments_dec : (placeSegments s).dec = s.dec := rfl
@[simp] theorem placeSegments_handed : (placeSegments s).handed = s.handed := rfl
@[simp] theorem placeSegments_pending : (placeSegments s).pending = s.pending := rfl

/-! `setChannel` writes only `pwu`. -/

@[simp] theorem setChannel_ms (pole : Pole) (c : Channel) : (setChannel pole c s).ms = s.ms := by cases pole <;> rfl
@[simp] theorem setChannel_strap (pole : Pole) (c : Channel) : (setChannel pole c s).strap = s.strap := by cases pole <;> rfl
@[simp] theorem setChannel_found (pole : Pole) (c : Channel) : (setChannel pole c s).found = s.found := by cases pole <;> rfl
@[simp] theorem setChannel_sct (pole : Pole) (c : Channel) : (setChannel pole c s).sct = s.sct := by cases pole <;> rfl
@[simp] theorem setChannel_pli (pole : Pole) (c : Channel) : (setChannel pole c s).pli = s.pli := by cases pole <;> rfl
@[simp] theorem setChannel_smc (pole : Pole) (c : Channel) : (setChannel pole c s).smc = s.smc := by cases pole <;> rfl
@[simp] theorem setChannel_cbu (pole : Pole) (c : Channel) : (setChannel pole c s).cbu = s.cbu := by cases pole <;> rfl
@[simp] theorem setChannel_tau (pole : Pole) (c : Channel) : (setChannel pole c s).tau = s.tau := by cases pole <;> rfl
@[simp] theorem setChannel_axs (pole : Pole) (c : Channel) : (setChannel pole c s).axs = s.axs := by cases pole <;> rfl
@[simp] theorem setChannel_alm (pole : Pole) (c : Channel) : (setChannel pole c s).alm = s.alm := by cases pole <;> rfl
@[simp] theorem setChannel_dec (pole : Pole) (c : Channel) : (setChannel pole c s).dec = s.dec := by cases pole <;> rfl
@[simp] theorem setChannel_upi (pole : Pole) (c : Channel) : (setChannel pole c s).upi = s.upi := by cases pole <;> rfl
@[simp] theorem setChannel_mge (pole : Pole) (c : Channel) : (setChannel pole c s).mge = s.mge := by cases pole <;> rfl
@[simp] theorem setChannel_handed (pole : Pole) (c : Channel) : (setChannel pole c s).handed = s.handed := by cases pole <;> rfl
@[simp] theorem setChannel_pending (pole : Pole) (c : Channel) : (setChannel pole c s).pending = s.pending := by cases pole <;> rfl

/-! `setSlot` writes only `pli`. -/

@[simp] theorem setSlot_ms (pole : Pole) (x : Slot) : (setSlot pole x s).ms = s.ms := by cases pole <;> rfl
@[simp] theorem setSlot_strap (pole : Pole) (x : Slot) : (setSlot pole x s).strap = s.strap := by cases pole <;> rfl
@[simp] theorem setSlot_found (pole : Pole) (x : Slot) : (setSlot pole x s).found = s.found := by cases pole <;> rfl
@[simp] theorem setSlot_sct (pole : Pole) (x : Slot) : (setSlot pole x s).sct = s.sct := by cases pole <;> rfl
@[simp] theorem setSlot_pwu (pole : Pole) (x : Slot) : (setSlot pole x s).pwu = s.pwu := by cases pole <;> rfl
@[simp] theorem setSlot_smc (pole : Pole) (x : Slot) : (setSlot pole x s).smc = s.smc := by cases pole <;> rfl
@[simp] theorem setSlot_cbu (pole : Pole) (x : Slot) : (setSlot pole x s).cbu = s.cbu := by cases pole <;> rfl
@[simp] theorem setSlot_tau (pole : Pole) (x : Slot) : (setSlot pole x s).tau = s.tau := by cases pole <;> rfl
@[simp] theorem setSlot_axs (pole : Pole) (x : Slot) : (setSlot pole x s).axs = s.axs := by cases pole <;> rfl
@[simp] theorem setSlot_alm (pole : Pole) (x : Slot) : (setSlot pole x s).alm = s.alm := by cases pole <;> rfl
@[simp] theorem setSlot_dec (pole : Pole) (x : Slot) : (setSlot pole x s).dec = s.dec := by cases pole <;> rfl
@[simp] theorem setSlot_upi (pole : Pole) (x : Slot) : (setSlot pole x s).upi = s.upi := by cases pole <;> rfl
@[simp] theorem setSlot_mge (pole : Pole) (x : Slot) : (setSlot pole x s).mge = s.mge := by cases pole <;> rfl
@[simp] theorem setSlot_handed (pole : Pole) (x : Slot) : (setSlot pole x s).handed = s.handed := by cases pole <;> rfl
@[simp] theorem setSlot_pending (pole : Pole) (x : Slot) : (setSlot pole x s).pending = s.pending := by cases pole <;> rfl

/-! `requestCommand` writes only `pli`. -/

@[simp] theorem requestCommand_ms (pole : Pole) (c : RetrieverCmd) : (requestCommand pole c s).ms = s.ms := by cases pole <;> rfl
@[simp] theorem requestCommand_strap (pole : Pole) (c : RetrieverCmd) : (requestCommand pole c s).strap = s.strap := by cases pole <;> rfl
@[simp] theorem requestCommand_found (pole : Pole) (c : RetrieverCmd) : (requestCommand pole c s).found = s.found := by cases pole <;> rfl
@[simp] theorem requestCommand_sct (pole : Pole) (c : RetrieverCmd) : (requestCommand pole c s).sct = s.sct := by cases pole <;> rfl
@[simp] theorem requestCommand_pwu (pole : Pole) (c : RetrieverCmd) : (requestCommand pole c s).pwu = s.pwu := by cases pole <;> rfl
@[simp] theorem requestCommand_smc (pole : Pole) (c : RetrieverCmd) : (requestCommand pole c s).smc = s.smc := by cases pole <;> rfl
@[simp] theorem requestCommand_cbu (pole : Pole) (c : RetrieverCmd) : (requestCommand pole c s).cbu = s.cbu := by cases pole <;> rfl
@[simp] theorem requestCommand_tau (pole : Pole) (c : RetrieverCmd) : (requestCommand pole c s).tau = s.tau := by cases pole <;> rfl
@[simp] theorem requestCommand_axs (pole : Pole) (c : RetrieverCmd) : (requestCommand pole c s).axs = s.axs := by cases pole <;> rfl
@[simp] theorem requestCommand_alm (pole : Pole) (c : RetrieverCmd) : (requestCommand pole c s).alm = s.alm := by cases pole <;> rfl
@[simp] theorem requestCommand_dec (pole : Pole) (c : RetrieverCmd) : (requestCommand pole c s).dec = s.dec := by cases pole <;> rfl
@[simp] theorem requestCommand_upi (pole : Pole) (c : RetrieverCmd) : (requestCommand pole c s).upi = s.upi := by cases pole <;> rfl
@[simp] theorem requestCommand_mge (pole : Pole) (c : RetrieverCmd) : (requestCommand pole c s).mge = s.mge := by cases pole <;> rfl
@[simp] theorem requestCommand_handed (pole : Pole) (c : RetrieverCmd) : (requestCommand pole c s).handed = s.handed := by cases pole <;> rfl
@[simp] theorem requestCommand_pending (pole : Pole) (c : RetrieverCmd) : (requestCommand pole c s).pending = s.pending := by cases pole <;> rfl

/-! `setLoad` writes only `axs`. -/

@[simp] theorem setLoad_ms (i : LoadIx) (r : LoadRec) : (setLoad i r s).ms = s.ms := rfl
@[simp] theorem setLoad_strap (i : LoadIx) (r : LoadRec) : (setLoad i r s).strap = s.strap := rfl
@[simp] theorem setLoad_found (i : LoadIx) (r : LoadRec) : (setLoad i r s).found = s.found := rfl
@[simp] theorem setLoad_sct (i : LoadIx) (r : LoadRec) : (setLoad i r s).sct = s.sct := rfl
@[simp] theorem setLoad_pwu (i : LoadIx) (r : LoadRec) : (setLoad i r s).pwu = s.pwu := rfl
@[simp] theorem setLoad_pli (i : LoadIx) (r : LoadRec) : (setLoad i r s).pli = s.pli := rfl
@[simp] theorem setLoad_smc (i : LoadIx) (r : LoadRec) : (setLoad i r s).smc = s.smc := rfl
@[simp] theorem setLoad_cbu (i : LoadIx) (r : LoadRec) : (setLoad i r s).cbu = s.cbu := rfl
@[simp] theorem setLoad_tau (i : LoadIx) (r : LoadRec) : (setLoad i r s).tau = s.tau := rfl
@[simp] theorem setLoad_alm (i : LoadIx) (r : LoadRec) : (setLoad i r s).alm = s.alm := rfl
@[simp] theorem setLoad_dec (i : LoadIx) (r : LoadRec) : (setLoad i r s).dec = s.dec := rfl
@[simp] theorem setLoad_upi (i : LoadIx) (r : LoadRec) : (setLoad i r s).upi = s.upi := rfl
@[simp] theorem setLoad_mge (i : LoadIx) (r : LoadRec) : (setLoad i r s).mge = s.mge := rfl
@[simp] theorem setLoad_handed (i : LoadIx) (r : LoadRec) : (setLoad i r s).handed = s.handed := rfl
@[simp] theorem setLoad_pending (i : LoadIx) (r : LoadRec) : (setLoad i r s).pending = s.pending := rfl

/-! `joinWaiting` writes only `axs`. -/

@[simp] theorem joinWaiting_ms (i : LoadIx) : (joinWaiting i s).ms = s.ms := rfl
@[simp] theorem joinWaiting_strap (i : LoadIx) : (joinWaiting i s).strap = s.strap := rfl
@[simp] theorem joinWaiting_found (i : LoadIx) : (joinWaiting i s).found = s.found := rfl
@[simp] theorem joinWaiting_sct (i : LoadIx) : (joinWaiting i s).sct = s.sct := rfl
@[simp] theorem joinWaiting_pwu (i : LoadIx) : (joinWaiting i s).pwu = s.pwu := rfl
@[simp] theorem joinWaiting_pli (i : LoadIx) : (joinWaiting i s).pli = s.pli := rfl
@[simp] theorem joinWaiting_smc (i : LoadIx) : (joinWaiting i s).smc = s.smc := rfl
@[simp] theorem joinWaiting_cbu (i : LoadIx) : (joinWaiting i s).cbu = s.cbu := rfl
@[simp] theorem joinWaiting_tau (i : LoadIx) : (joinWaiting i s).tau = s.tau := rfl
@[simp] theorem joinWaiting_alm (i : LoadIx) : (joinWaiting i s).alm = s.alm := rfl
@[simp] theorem joinWaiting_dec (i : LoadIx) : (joinWaiting i s).dec = s.dec := rfl
@[simp] theorem joinWaiting_upi (i : LoadIx) : (joinWaiting i s).upi = s.upi := rfl
@[simp] theorem joinWaiting_mge (i : LoadIx) : (joinWaiting i s).mge = s.mge := rfl
@[simp] theorem joinWaiting_handed (i : LoadIx) : (joinWaiting i s).handed = s.handed := rfl
@[simp] theorem joinWaiting_pending (i : LoadIx) : (joinWaiting i s).pending = s.pending := rfl

/-! `leaveWaiting` writes only `axs`. -/

@[simp] theorem leaveWaiting_ms (i : LoadIx) : (leaveWaiting i s).ms = s.ms := rfl
@[simp] theorem leaveWaiting_strap (i : LoadIx) : (leaveWaiting i s).strap = s.strap := rfl
@[simp] theorem leaveWaiting_found (i : LoadIx) : (leaveWaiting i s).found = s.found := rfl
@[simp] theorem leaveWaiting_sct (i : LoadIx) : (leaveWaiting i s).sct = s.sct := rfl
@[simp] theorem leaveWaiting_pwu (i : LoadIx) : (leaveWaiting i s).pwu = s.pwu := rfl
@[simp] theorem leaveWaiting_pli (i : LoadIx) : (leaveWaiting i s).pli = s.pli := rfl
@[simp] theorem leaveWaiting_smc (i : LoadIx) : (leaveWaiting i s).smc = s.smc := rfl
@[simp] theorem leaveWaiting_cbu (i : LoadIx) : (leaveWaiting i s).cbu = s.cbu := rfl
@[simp] theorem leaveWaiting_tau (i : LoadIx) : (leaveWaiting i s).tau = s.tau := rfl
@[simp] theorem leaveWaiting_alm (i : LoadIx) : (leaveWaiting i s).alm = s.alm := rfl
@[simp] theorem leaveWaiting_dec (i : LoadIx) : (leaveWaiting i s).dec = s.dec := rfl
@[simp] theorem leaveWaiting_upi (i : LoadIx) : (leaveWaiting i s).upi = s.upi := rfl
@[simp] theorem leaveWaiting_mge (i : LoadIx) : (leaveWaiting i s).mge = s.mge := rfl
@[simp] theorem leaveWaiting_handed (i : LoadIx) : (leaveWaiting i s).handed = s.handed := rfl
@[simp] theorem leaveWaiting_pending (i : LoadIx) : (leaveWaiting i s).pending = s.pending := rfl

/-! `placeNotice` writes only `upi`. -/

@[simp] theorem placeNotice_ms (l : List Byte) : (placeNotice l s).ms = s.ms := by unfold placeNotice; split <;> rfl
@[simp] theorem placeNotice_strap (l : List Byte) : (placeNotice l s).strap = s.strap := by unfold placeNotice; split <;> rfl
@[simp] theorem placeNotice_found (l : List Byte) : (placeNotice l s).found = s.found := by unfold placeNotice; split <;> rfl
@[simp] theorem placeNotice_sct (l : List Byte) : (placeNotice l s).sct = s.sct := by unfold placeNotice; split <;> rfl
@[simp] theorem placeNotice_pwu (l : List Byte) : (placeNotice l s).pwu = s.pwu := by unfold placeNotice; split <;> rfl
@[simp] theorem placeNotice_pli (l : List Byte) : (placeNotice l s).pli = s.pli := by unfold placeNotice; split <;> rfl
@[simp] theorem placeNotice_smc (l : List Byte) : (placeNotice l s).smc = s.smc := by unfold placeNotice; split <;> rfl
@[simp] theorem placeNotice_cbu (l : List Byte) : (placeNotice l s).cbu = s.cbu := by unfold placeNotice; split <;> rfl
@[simp] theorem placeNotice_tau (l : List Byte) : (placeNotice l s).tau = s.tau := by unfold placeNotice; split <;> rfl
@[simp] theorem placeNotice_axs (l : List Byte) : (placeNotice l s).axs = s.axs := by unfold placeNotice; split <;> rfl
@[simp] theorem placeNotice_alm (l : List Byte) : (placeNotice l s).alm = s.alm := by unfold placeNotice; split <;> rfl
@[simp] theorem placeNotice_dec (l : List Byte) : (placeNotice l s).dec = s.dec := by unfold placeNotice; split <;> rfl
@[simp] theorem placeNotice_mge (l : List Byte) : (placeNotice l s).mge = s.mge := by unfold placeNotice; split <;> rfl
@[simp] theorem placeNotice_handed (l : List Byte) : (placeNotice l s).handed = s.handed := by unfold placeNotice; split <;> rfl
@[simp] theorem placeNotice_pending (l : List Byte) : (placeNotice l s).pending = s.pending := by unfold placeNotice; split <;> rfl

/-! What the operations write. -/

@[simp] theorem hand_handed (e : List Instr) : (hand e s).handed = s.handed ++ e := rfl
@[simp] theorem taken_handed (c : Instr) : (taken c s).handed = s.handed.erase c := rfl
@[simp] theorem errorU_upi (c : ErrCode) : (errorU c s).upi = { s.upi with err := takeCode s.upi.err c } := rfl
@[simp] theorem errorD_dec (c : ErrCode) : (errorD c s).dec = { s.dec with err := takeCode s.dec.err c } := rfl
@[simp] theorem errorS_pli (c : ErrCode) : (errorS c s).pli = { s.pli with err := takeCode s.pli.err c } := rfl
@[simp] theorem changeLanes_dec (f : Lanes → Lanes) :
    (changeLanes f s).dec =
      { s.dec with lanes := f s.dec.lanes, tHeld := holdTimer s.dec (tHeld s.mge.params) (f s.dec.lanes) } := rfl
@[simp] theorem setLoad_axs (i : LoadIx) (r : LoadRec) :
    (setLoad i r s).axs = { s.axs with loads := s.axs.loads.set i r } := rfl

/-! Reading back a channel, a slot and a load record. -/

@[simp] theorem channel_setChannel_same (pole : Pole) (c : Channel) : channel (setChannel pole c s) pole = c := by
  cases pole <;> rfl

theorem channel_setChannel_other (pole q : Pole) (c : Channel) (h : q ≠ pole) :
    channel (setChannel pole c s) q = channel s q := by
  cases pole <;> cases q <;> simp_all [channel, setChannel]

@[simp] theorem slot_setSlot_same (pole : Pole) (x : Slot) : slot (setSlot pole x s) pole = x := by cases pole <;> rfl

theorem slot_setSlot_other (pole q : Pole) (x : Slot) (h : q ≠ pole) : slot (setSlot pole x s) q = slot s q := by
  cases pole <;> cases q <;> simp_all [slot, setSlot]

@[simp] theorem channel_setSlot (pole q : Pole) (x : Slot) : channel (setSlot pole x s) q = channel s q := by
  cases pole <;> cases q <;> rfl

@[simp] theorem slot_setChannel (pole q : Pole) (c : Channel) : slot (setChannel pole c s) q = slot s q := by
  cases pole <;> cases q <;> rfl

@[simp] theorem channel_hand (e : List Instr) (q : Pole) : channel (hand e s) q = channel s q := by cases q <;> rfl

@[simp] theorem slot_hand (e : List Instr) (q : Pole) : slot (hand e s) q = slot s q := by cases q <;> rfl

@[simp] theorem channel_taken (c : Instr) (q : Pole) : channel (taken c s) q = channel s q := by cases q <;> rfl

@[simp] theorem slot_taken (c : Instr) (q : Pole) : slot (taken c s) q = slot s q := by cases q <;> rfl

@[simp] theorem loadRec_setLoad_same (i : LoadIx) (r : LoadRec) : loadRec (setLoad i r s) i = r := by
  simp [loadRec, setLoad]

theorem loadRec_setLoad_other (i j : LoadIx) (r : LoadRec) (h : j ≠ i) :
    loadRec (setLoad i r s) j = loadRec s j := by
  have hv : ¬ i.val = j.val := fun e => h (Fin.ext e.symm)
  simp [loadRec, setLoad, hv]

@[simp] theorem auxEntry_setLoad (i j : LoadIx) (r : LoadRec) : auxEntry (setLoad i r s) j = auxEntry s j := rfl

/-! `skipLineFrame` writes only `pli`. -/

@[simp] theorem skipLineFrame_ms : (skipLineFrame s).ms = s.ms := rfl
@[simp] theorem skipLineFrame_strap : (skipLineFrame s).strap = s.strap := rfl
@[simp] theorem skipLineFrame_found : (skipLineFrame s).found = s.found := rfl
@[simp] theorem skipLineFrame_sct : (skipLineFrame s).sct = s.sct := rfl
@[simp] theorem skipLineFrame_pwu : (skipLineFrame s).pwu = s.pwu := rfl
@[simp] theorem skipLineFrame_smc : (skipLineFrame s).smc = s.smc := rfl
@[simp] theorem skipLineFrame_cbu : (skipLineFrame s).cbu = s.cbu := rfl
@[simp] theorem skipLineFrame_tau : (skipLineFrame s).tau = s.tau := rfl
@[simp] theorem skipLineFrame_axs : (skipLineFrame s).axs = s.axs := rfl
@[simp] theorem skipLineFrame_alm : (skipLineFrame s).alm = s.alm := rfl
@[simp] theorem skipLineFrame_dec : (skipLineFrame s).dec = s.dec := rfl
@[simp] theorem skipLineFrame_upi : (skipLineFrame s).upi = s.upi := rfl
@[simp] theorem skipLineFrame_mge : (skipLineFrame s).mge = s.mge := rfl
@[simp] theorem skipLineFrame_handed : (skipLineFrame s).handed = s.handed := rfl
@[simp] theorem skipLineFrame_pending : (skipLineFrame s).pending = s.pending := rfl

end Sys2Proof.Machine
end

