-- ==== Sys2Proof/Laws/Ops.lean ====
section
/-! SUPPORT. One lemma for each shared operation that says everything it can do, cited in place of unfolding it. -/

namespace Sys2Proof.Machine

/-! ### Error records and the upstream queue -/

/-- R54: a record that takes a code has it as its last code and its flag set. -/
theorem takeCode_spec (e : ErrRec) (c : ErrCode) : takeCode e c = tookCode e c (errCodeNum c - 1) := by
  cases c <;> rfl

/-- R158, R159: a notice joins the tail of group B, or is lost and leaves the notice-lost flag set. -/
theorem placeNotice_spec (payload : List Byte) (s : State) :
    (s.upi.groupB.countP GroupB.isNotice < 8 ∧ placeNotice payload s =
      { s with upi.groupB := s.upi.groupB ++ [.notice (built s 7 (reportNode s.mge.params) payload)] }) ∨
    (8 ≤ s.upi.groupB.countP GroupB.isNotice ∧ placeNotice payload s = { s with upi.noticeLost := true }) := by
  by_cases h : s.upi.groupB.countP GroupB.isNotice < 8
  · exact .inl ⟨h, by simp [placeNotice, Config.noticeEntries, h, builtFrame, built]⟩
  · exact .inr ⟨by omega, by simp [placeNotice, Config.noticeEntries, h]⟩

/-- A notice changes nothing that another notice is built from. -/
@[simp] theorem placeNotice_partNode (payload : List Byte) (s : State) :
    partNode (placeNotice payload s) = partNode s := by simp [partNode]

/-- R143: a key that waits nowhere in the list takes its tail. -/
theorem putAlarm_absent (key : AlarmKey) (f : Frame) (l : List GroupA) (h : key ∉ waitingKeys l) :
    putAlarm key f l = l ++ [.alarm key f] := by
  induction l with
  | nil => rfl
  | cons x rest ih =>
    cases x with
    | response g r => simp only [putAlarm, List.cons_append]; rw [ih (by simpa [waitingKeys] using h)]
    | alarm k g =>
      have hk : k ≠ key := fun e => h (by simp [waitingKeys, e])
      have hr : key ∉ waitingKeys rest := fun e => h (by
        simp only [waitingKeys, List.filterMap_cons] at e ⊢; exact List.mem_cons_of_mem _ e)
      simp only [putAlarm, if_neg hk, List.cons_append]; rw [ih hr]

/-- R158: the waiting keys after a placement: the key's own place, or the tail. -/
theorem waitingKeys_putAlarm (key : AlarmKey) (f : Frame) (l : List GroupA) :
    waitingKeys (putAlarm key f l) = if key ∈ waitingKeys l then waitingKeys l else waitingKeys l ++ [key] := by
  induction l with
  | nil => simp [putAlarm, waitingKeys]
  | cons x rest ih =>
    cases x with
    | response g r => simpa [putAlarm, waitingKeys] using ih
    | alarm k g =>
      simp only [putAlarm]
      by_cases hk : k = key
      · simp [waitingKeys, hk]
      · rw [if_neg hk]
        have e : ∀ l, waitingKeys (.alarm k g :: l) = k :: waitingKeys l := fun _ => rfl
        rw [e, e, ih]
        by_cases hm : key ∈ waitingKeys rest
        · rw [if_pos hm, if_pos (List.mem_cons_of_mem _ hm)]
        · rw [if_neg hm, if_neg (by simp only [List.mem_cons, not_or]; exact ⟨Ne.symm hk, hm⟩), List.cons_append]

/-- R158: a placement changes no response entry. -/
theorem responses_putAlarm (key : AlarmKey) (f : Frame) (l : List GroupA) :
    (putAlarm key f l).countP GroupA.isResponse = l.countP GroupA.isResponse := by
  induction l with
  | nil => rfl
  | cons x rest ih =>
    cases x with
    | response g r => simp only [putAlarm, List.countP_cons, ih]
    | alarm k g =>
      simp only [putAlarm]; split
      · simp [GroupA.isResponse]
      · simp [List.countP_cons, ih]

/-- R158: a status that is replaced keeps the list's pairs, in their places. -/
theorem replaceStatus_pairs (f : Frame) (l g : List GroupB) (h : replaceStatus f l = some g) :
    waitingPairs g = waitingPairs l ∧ g.length = l.length ∧ (f.src, f.cls) ∈ waitingPairs l := by
  induction l generalizing g with
  | nil => cases h
  | cons x rest ih =>
    cases x with
    | status y =>
      simp only [replaceStatus] at h
      split at h
      · rename_i e
        cases h
        simp [waitingPairs, e]
      · obtain ⟨g', hg, rfl⟩ := Option.map_eq_some_iff.mp h
        obtain ⟨e1, e2, e3⟩ := ih g' hg
        simp only [waitingPairs, List.filterMap_cons, List.length_cons] at e1 e3 ⊢
        exact ⟨by rw [e1], by rw [e2], List.mem_cons_of_mem _ e3⟩
    | notice y =>
      obtain ⟨g', hg, rfl⟩ := Option.map_eq_some_iff.mp h
      simpa [waitingPairs] using ih g' hg
    | other y =>
      obtain ⟨g', hg, rfl⟩ := Option.map_eq_some_iff.mp h
      simpa [waitingPairs] using ih g' hg

/-- R158: a status that finds no waiting one of its pair is not replaced. -/
theorem replaceStatus_none (f : Frame) (l : List GroupB) :
    replaceStatus f l = none ↔ (f.src, f.cls) ∉ waitingPairs l := by
  induction l with
  | nil => simp [replaceStatus, waitingPairs]
  | cons x rest ih =>
    cases x with
    | status y =>
      simp only [replaceStatus]
      split
      · rename_i e; simp [waitingPairs, e]
      · rename_i e
        simp only [Option.map_eq_none_iff, ih, waitingPairs, List.filterMap_cons, List.mem_cons, not_or, Prod.mk.injEq]
        exact ⟨fun h => ⟨fun c => e ⟨c.1.symm, c.2.symm⟩, h⟩, And.right⟩
    | notice y => simpa [replaceStatus, waitingPairs] using ih
    | other y => simpa [replaceStatus, waitingPairs] using ih

/-- R158: a status takes the place of the waiting one of its pair, or the tail, or is lost with LANE_FULL on Port D. -/
theorem passUpStatus_spec (f : Frame) (s : State) :
    (∃ g, replaceStatus f s.upi.groupB = some g ∧ passUpStatus f s = { s with upi.groupB := g }) ∨
    (replaceStatus f s.upi.groupB = none ∧ s.upi.groupB.countP GroupB.isStatus < 16 ∧
      passUpStatus f s = { s with upi.groupB := s.upi.groupB ++ [.status f] }) ∨
    (replaceStatus f s.upi.groupB = none ∧ 16 ≤ s.upi.groupB.countP GroupB.isStatus ∧
      passUpStatus f s = errorD .laneFull s) := by
  unfold passUpStatus
  cases h : replaceStatus f s.upi.groupB with
  | some g => exact .inl ⟨g, rfl, rfl⟩
  | none =>
    by_cases hc : s.upi.groupB.countP GroupB.isStatus < 16
    · exact .inr (.inl ⟨rfl, hc, by simp [Config.statusEntries, hc]⟩)
    · exact .inr (.inr ⟨rfl, by omega, by simp [Config.statusEntries, hc]⟩)

/-- R158: another passed-up frame takes the tail, or is lost with LANE_FULL on Port D. -/
theorem passUpOther_spec (f : Frame) (s : State) :
    (s.upi.groupB.countP GroupB.isOther < 8 ∧
      passUpOther f s = { s with upi.groupB := s.upi.groupB ++ [.other f] }) ∨
    (8 ≤ s.upi.groupB.countP GroupB.isOther ∧ passUpOther f s = errorD .laneFull s) := by
  by_cases h : s.upi.groupB.countP GroupB.isOther < 8
  · exact .inl ⟨h, by simp [passUpOther, Config.otherEntries, h]⟩
  · exact .inr ⟨by omega, by simp [passUpOther, Config.otherEntries, h]⟩

/-- R164: after a placement of segments either none waits or no response entry is free. -/
theorem placeSegments_spec (s : State) (h : responseCount s ≤ 4) :
    responseCount (placeSegments s) ≤ 4 ∧
      ((placeSegments s).mge.toPlace ≠ [] → responseCount (placeSegments s) = 4) := by
  have hr : ∀ l : List Frame, (l.map (GroupA.response · false)).countP GroupA.isResponse = l.length := by
    intro l; induction l with
    | nil => rfl
    | cons x rest ih => simp only [List.map_cons, List.countP_cons, ih]; rfl
  have e : responseCount (placeSegments s) = responseCount s + min (4 - responseCount s) s.mge.toPlace.length := by
    simp only [responseCount, placeSegments, List.countP_append, hr, Config.responseEntries, List.length_take]
  refine ⟨by omega, fun ne => ?_⟩
  have : s.mge.toPlace.drop (4 - responseCount s) ≠ [] := ne
  rw [Ne, List.drop_eq_nil_iff] at this
  omega

/-! ### Lanes -/

/-- R156: the hold timer after a change of the lanes, where it ran as R156 says before it. -/
theorem holdTimer_spec (d : Dec) (setting : Nat) (after : Lanes)
    (h : d.tHeld.isSome = true ↔ d.held = true ∧ lanesNonEmpty d.lanes = true ∧ d.heldExpired = false) :
    (holdTimer d setting after).isSome = true ↔
      d.held = true ∧ lanesNonEmpty after = true ∧ d.heldExpired = false := by
  cases hh : d.held <;> cases ha : lanesNonEmpty after <;> cases hb : lanesNonEmpty d.lanes <;>
    cases he : d.heldExpired <;> simp_all [holdTimer]

/-- R150: a forwarded frame joins the lane 0 FIFO, or is lost with LANE_FULL on Port U. -/
theorem forwardLane0_spec (f : Frame) (s : State) :
    (s.dec.lanes.fifo0.length < 4 ∧
      forwardLane0 f s = changeLanes (fun l => { l with fifo0 := l.fifo0 ++ [f] }) s) ∨
    (4 ≤ s.dec.lanes.fifo0.length ∧ forwardLane0 f s = errorU .laneFull s) := by
  by_cases h : s.dec.lanes.fifo0.length < 4
  · exact .inl ⟨h, by simp [forwardLane0, Config.lane0Entries, h]⟩
  · exact .inr ⟨by omega, by simp [forwardLane0, Config.lane0Entries, h]⟩

/-- R150: a forwarded frame joins the lane 2 FIFO, or is lost with LANE_FULL on Port U. -/
theorem forwardLane2_spec (f : Frame) (s : State) :
    (s.dec.lanes.fifo2.length < 8 ∧
      forwardLane2 f s = changeLanes (fun l => { l with fifo2 := l.fifo2 ++ [f] }) s) ∨
    (8 ≤ s.dec.lanes.fifo2.length ∧ forwardLane2 f s = errorU .laneFull s) := by
  by_cases h : s.dec.lanes.fifo2.length < 8
  · exact .inl ⟨h, by simp [forwardLane2, Config.lane2Entries, h]⟩
  · exact .inr ⟨by omega, by simp [forwardLane2, Config.lane2Entries, h]⟩

/-- R151: the command slots hold one command per load after a placement. -/
theorem placeCommand_slots (i : LoadIx) (f : Frame) (s : State) :
    (placeCommand i f s).dec.lanes.slots = s.dec.lanes.slots.filter (fun x => x.1 ≠ i) ++ [(i, f)] := rfl

/-- R152: a lane is granted exactly when one holds a frame, and the granted lane has a frame to send. -/
theorem nextLane_takeFrom (l : Lanes) (count : Nat) :
    (nextLane l count = none ↔ lanesNonEmpty l = false) ∧
    ∀ lane n, nextLane l count = some (lane, n) → (takeFrom lane l).isSome = true := by
  obtain ⟨cut, fifo0, lane1, slots, fifo2⟩ := l
  constructor
  · cases cut <;> cases fifo0 <;> cases lane1 <;> cases slots <;> cases fifo2 <;>
      simp [nextLane, lanesNonEmpty, lane0NonEmpty, lane2NonEmpty, Config.grantBound] <;> split <;> simp
  · intro lane n h
    cases cut <;> cases fifo0 <;> cases lane1 <;> cases slots <;> cases fifo2 <;>
      simp [nextLane, lane0NonEmpty, lane2NonEmpty, Config.grantBound] at h <;>
      (try split at h) <;> (try simp at h) <;> obtain ⟨rfl, -⟩ := h <;> rfl

/-! ### Commands and requests -/

/-- R50: a command entered in a pole's slot. -/
theorem requestCommand_spec (pole : Pole) (cmd : RetrieverCmd) (s : State) :
    slot (requestCommand pole cmd s) pole = commanded cmd pole s ∧
    (∀ q, q ≠ pole → slot (requestCommand pole cmd s) q = slot s q) ∧
    ∀ q, channel (requestCommand pole cmd s) q = channel s q := by
  refine ⟨?_, fun q h => ?_, fun q => ?_⟩
  · simp [requestCommand, commanded, Config.tCmd]
  · simp [requestCommand, slot_setSlot_other _ _ _ _ h]
  · simp [requestCommand]

/-- R164: what a request finds as it is taken. -/
theorem takeRequest_spec (payload : List Byte) (q : Request) (s t : State) (h : takeRequest payload q s = some t) :
    s.mge.toPlace = [] ∧ s.mge.awaitRestart = false ∧ responseCount s < 4 ∧
    (t = s ∨ ∃ e, earliestComplete s.mge.queue = some e ∧ e.source = q.source ∧ e.payload = payload ∧
      e.overLength = q.overLength ∧ t = { s with mge.queue := s.mge.queue.erase e }) := by
  unfold takeRequest at h
  split at h
  · rename_i hr
    simp only [mgeReady, Config.responseEntries, Bool.and_eq_true, List.isEmpty_iff, Bool.not_eq_true'] at hr
    refine ⟨hr.1.1, hr.1.2, of_decide_eq_true hr.2, ?_⟩
    split at h
    · exact .inl (by simpa using h.symm)
    · rename_i e he
      split at h
      · rename_i hm
        exact .inr ⟨e, he, hm.1, hm.2.1, hm.2.2, by simpa using h.symm⟩
      · cases h
  · cases h

/-- The request waits, or is answered after it has been taken (R164, R165). -/
theorem runRequest_spec (code : ReqCode) (q : Request) (body : State → State × Reply) (s : State) :
    (takeRequest (reqCodeNum code :: q.args) q s = none ∧ runRequest code q body s = s) ∨
    ∃ s1, takeRequest (reqCodeNum code :: q.args) q s = some s1 ∧
      ((q.overLength = true ∧ runRequest code q body s = respond q.source (reqCodeNum code) (plain .badField) s1) ∨
       (q.overLength = false ∧
        runRequest code q body s = respond q.source (reqCodeNum code) (body s1).2 (body s1).1)) := by
  unfold runRequest
  cases h : takeRequest (reqCodeNum code :: q.args) q s with
  | none => exact .inl ⟨rfl, rfl⟩
  | some s1 => refine .inr ⟨s1, rfl, ?_⟩; cases q.overLength <;> simp

end Sys2Proof.Machine
end

