-- ==== Sys2Proof/Laws/Blocks.lean ====
section
/-! SUPPORT. One lemma for each shared operation of a single block that says what it does, cited in place of unfolding
it. -/

namespace Sys2Proof.Machine

/-! ### Sections and supply -/

/-- R6: a view equal to the one last published changes nothing; any other is stored, handed over three times and
noticed. -/
theorem publishView_spec (v : View) (s : State) :
    (v = s.sct.view ∧ publishView v s = s) ∨
    (v ≠ s.sct.view ∧ publishView v s = placeNotice (1 :: viewBlock v s.sct.position s.sct.matched)
      (hand [.sectionViewAtSmc v, .sectionViewAtCbu v, .sectionViewAtPwu v] { s with sct.view := v })) := by
  by_cases h : v = s.sct.view
  · exact .inl ⟨h, by simp [publishView, h]⟩
  · exact .inr ⟨h, by simp [publishView, h, hand]⟩

/-- R64: an equal mode changes nothing; any other is stored with its requests, handed to CBU and noticed. -/
theorem publishMode_spec (new : SupplyMode) (s : State) :
    (new = s.smc.mode ∧ publishMode new s = s) ∨
    (new ≠ s.smc.mode ∧ publishMode new s =
      placeNotice [4, modeCode new, subkindCode new, modeCode s.smc.mode, subkindCode s.smc.mode]
        (hand (noLineAlarms s.smc.mode new ++ modeCuts new ++ [.modeAtCbu new]) { s with smc.mode := new })) := by
  by_cases h : new = s.smc.mode
  · exact .inl ⟨h, by simp [publishMode, h]⟩
  · exact .inr ⟨h, by simp [publishMode, h]⟩

/-- R67: the exposure flag follows the exposure, and its change asks for the alarm. -/
theorem judgeExposure_spec (s : State) :
    judgeExposure s = hand (exposureEvents (exposedNow s) s.smc.exposed) { s with smc.exposed := exposedNow s } := by
  cases s with | mk ms strap found sct pwu pli smc cbu tau axs alm dec upi mge handed pending =>
  cases smc with | mk mode latch noLine exposed =>
  unfold judgeExposure
  cases h : exposedNow ⟨ms, strap, found, sct, pwu, pli, ⟨mode, latch, noLine, exposed⟩, cbu, tau, axs, alm, dec, upi, mge, handed, pending⟩ <;>
    cases exposed <;> simp [exposureEvents, hand]

/-- R79, R80: the record is the one computed from the inputs, and is published where it differs. -/
theorem recompute_spec (s : State) :
    recompute s = { s with
      cbu.record := computeRecord s
      cbu.published := computeRecord s
      handed := s.handed ++ (if computeRecord s = s.cbu.published then []
        else [.budgetRecordAtTau (computeRecord s), .budgetRecordAtAxs (computeRecord s)]) } := by
  by_cases h : computeRecord s = s.cbu.published <;> simp [recompute, h, hand]

/-! ### Poles -/

/-- R24: criterion (b). -/
theorem fastRise_iff (e : ProfileEntry) (prev : Option Nat) (angle : Nat) :
    fastRise e prev angle = true ↔ FastRise e prev angle := by
  cases prev with
  | none => simp [fastRise, FastRise]
  | some q => simp [fastRise, FastRise]; omega

/-- R24: criteria (a) and (c). -/
theorem suspicious_iff (e : ProfileEntry) (kind : SectionKind) (angle : Nat) (contact : Bool) :
    (highAngle e angle || contactLoss kind contact) = true ↔ Suspicious e kind angle contact := by
  cases kind <;> simp [highAngle, contactLoss, Suspicious, isGap]

/-- R21: the working band. -/
theorem inBand_iff (e : ProfileEntry) (angle : Nat) : inBand e angle = true ↔ InBand e angle := by
  simp [inBand, InBand]

/-- R24: a good sample. -/
theorem goodSample_iff (e : ProfileEntry) (prev : Option Nat) (angle : Nat) (contact : Bool) :
    goodSample e prev angle contact = true ↔ Good e prev angle contact := by
  simp [goodSample, Good, ← inBand_iff, ← fastRise_iff, and_assoc]

/-- A pole on its hook. -/
theorem stowedSample_iff (e : ProfileEntry) (angle : Nat) (hook : Bool) :
    stowedSample e angle hook = true ↔ Stows e angle hook := by simp [stowedSample, Stows]

/-- R32: entry to DROPPED. -/
theorem enterDropped_spec (pole : Pole) (s : State) :
    DropTaken pole s (enterDropped pole s) ∧ (enterDropped pole s).handed = s.handed ++ [dropRaise pole s] ∧
    OnlyPole pole s (enterDropped pole s) ∧ (channel (enterDropped pole s) pole).mask = (channel s pole).mask ∧
    (channel (enterDropped pole s) pole).tSmp = (channel s pole).tSmp := by
  cases pole <;> cases h : (channel s _).mask <;>
    simp_all [enterDropped, DropTaken, startRetrieval, requestCommand, setChannel, setSlot, channel, slot, hand, dropRaise,
      OnlyPole, commanded, Config.tCmd] <;> (try refine ⟨rfl, ?_⟩) <;> (intro q; cases q <;> simp)

/-- R35, R37: a pole is pulled down into LOWERING and reported. -/
theorem startLowering_spec (pole : Pole) (s : State) :
    slot (startLowering pole s) pole = commanded .pullDown pole s ∧
    channel (startLowering pole s) pole = { channel s pole with
      state := .lowering, good := 0, tRaise := none, tRetr := some (tRetr s.mge.params) } ∧
    (startLowering pole s).handed = s.handed ++ [.poleReport pole .lowering true] ∧
    OnlyPole pole s (startLowering pole s) := by
  cases pole <;> simp [startLowering, requestCommand, setChannel, setSlot, channel, slot, hand, OnlyPole, commanded,
    Config.tCmd] <;> (intro q; cases q <;> simp)

/-- R34: a pole is released into RAISING and reported. -/
theorem startRaise_spec (pole : Pole) (s : State) :
    slot (startRaise pole s) pole = commanded .release pole s ∧
    channel (startRaise pole s) pole = { channel s pole with
      state := .raising, good := 0, tRaise := some (tRaise s.mge.params) } ∧
    (startRaise pole s).handed = s.handed ++ [.poleReport pole .raising true] ∧
    OnlyPole pole s (startRaise pole s) := by
  cases pole <;> simp [startRaise, requestCommand, setChannel, setSlot, channel, slot, hand, OnlyPole, commanded,
    Config.tCmd] <;> (intro q; cases q <;> simp)

/-! ### Traction -/

/-- R96, R97, R151: after a cut request lane 1 is empty and the cut slot holds the frame TAU has waiting. -/
theorem requestCut_spec (cause : CutCause) (s : State) :
    (requestCut cause s).tau = { s.tau with admitted := 0, cutWaiting := some cause } ∧
    (requestCut cause s).dec.lanes = cutLanes s.tau.cutWaiting.isSome (cutFrame s cause) cause s.dec.lanes ∧
    requestCut cause s = { s with
      tau := (requestCut cause s).tau
      dec.lanes := (requestCut cause s).dec.lanes
      dec.tHeld := (requestCut cause s).dec.tHeld } := ⟨rfl, rfl, rfl⟩

/-- R92, R93: a re-clip sets p and puts its frame in lane 1. -/
theorem reclip_spec (p : Int) (reason : LimitReason) (s : State) :
    (reclip p reason s).tau = { s.tau with admitted := p } ∧
    (reclip p reason s).dec.lanes = { s.dec.lanes with lane1 := some (reclipOf s p (reasonCode reason)) } ∧
    reclip p reason s = { s with
      tau := (reclip p reason s).tau
      dec.lanes := (reclip p reason s).dec.lanes
      dec.tHeld := (reclip p reason s).dec.tHeld } := ⟨rfl, rfl, rfl⟩

/-! ### Auxiliary loads -/

/-- R109: the reservation is handed over exactly where it has changed. -/
theorem handReservation_spec (s t : State) :
    HandsReservation t.handed s (handReservation s.axs.reservation t) ∧
    { handReservation s.axs.reservation t with handed := t.handed } = t := by
  by_cases h : t.axs.reservation = s.axs.reservation <;> simp [handReservation, HandsReservation, h, hand]

/-- R115: the record of an admitted load. -/
theorem admitLoad_record (i : LoadIx) (s : State) :
    loadRec (admitLoad i s) i = { loadRec s i with
      state := .on, joined := none, admitted := some s.ms, order := some (s.axs.orderCount + 1),
      minOn := startMin (auxEntry s i).minOn.toNat } := by
  simp [admitLoad, enterState, auxNotice, commandLoad, placeCommand, leaveWaiting, loadRec, setLoad, auxEntry]

/-- R115: what an admission does outside the load's record. -/
theorem admitLoad_spec (i : LoadIx) (s : State) :
    (∀ j, j ≠ i → loadRec (admitLoad i s) j = loadRec s j) ∧
    (admitLoad i s).axs.joinOrder = s.axs.joinOrder.filter (fun j => j ≠ i) ∧
    (admitLoad i s).axs.reservation = s.axs.reservation + nominal s i ∧
    (admitLoad i s).axs.orderCount = s.axs.orderCount + 1 ∧ (admitLoad i s).handed = s.handed ∧
    (admitLoad i s).dec.lanes.slots =
      s.dec.lanes.slots.filter (fun x => x.1 ≠ i) ++ [(i, onCommand s i)] ∧
    (admitLoad i s).upi = (placeNotice (auxStatePayload i (loadStateCode (loadRec s i).state) 2 3
      (s.axs.reservation + nominal s i)) s).upi := by
  refine ⟨fun j hj => ?_, ?_, ?_, ?_, ?_, ?_, ?_⟩
  · have hv : ¬ i.val = j.val := fun e => hj (Fin.ext e.symm)
    simp [admitLoad, enterState, auxNotice, commandLoad, placeCommand, leaveWaiting, loadRec, setLoad, hv]
  all_goals simp [admitLoad, enterState, auxNotice, commandLoad, placeCommand, leaveWaiting, loadRec, setLoad, auxEntry,
    nominal, auxCommand, onCommand, builtFrame, built, partNode, auxStatePayload]
  all_goals (simp [placeNotice, partNode, loadStateCode]; try split <;> rfl)

/-- R117: the record of a shed load. -/
theorem shedLoad_record (i : LoadIx) (cause : AuxCause) (s : State) :
    loadRec (shedLoad i cause s) i =
      { leftOn (auxEntry s i) (loadRec s i) with state := .shed, joined := some s.ms } := by
  simp [shedLoad, enterState, auxNotice, leaveOn, leftOn, placeCommand, joinWaiting, loadRec, setLoad, auxEntry]

/-! ### Converter status and retired loads -/

/-- R125: a running converter whose load is not ON is told OFF; any other status sends nothing. -/
theorem resendOff_spec (i : LoadIx) (isRunning : Bool) (s : State) :
    (isRunning = true ∧ (loadRec s i).state ≠ .on → resendOff i isRunning s = commandLoad i false s) ∧
    (¬ (isRunning = true ∧ (loadRec s i).state ≠ .on) → resendOff i isRunning s = s) := by
  constructor <;> intro h <;> simp [resendOff] <;> simp_all

/-- R128: a load whose entry stays valid keeps its state, its timers and its place. -/
theorem retireLoad_valid (old : AuxTable) (s : State) (i : LoadIx) (h : (auxEntry s i).valid = true) :
    retireLoad old s i = s := by
  simp [retireLoad, h]

/-! ### Port D -/

/-- R152: no grant is made while a frame is being sent, while the port is held or with every lane empty. -/
theorem grant_none (s : State) (h : s.dec.sending ≠ none ∨ s.dec.held = true ∨ lanesNonEmpty s.dec.lanes = false) :
    grant s = s := by
  unfold grant
  split
  · rfl
  · rename_i hb
    simp only [Bool.or_eq_true, Option.isSome_iff_ne_none, not_or, Bool.not_eq_true] at hb
    rcases h with h | h | h
    · exact absurd h hb.1
    · rw [hb.2] at h; cases h
    · rw [((nextLane_takeFrom s.dec.lanes s.dec.grants).1).mpr h]

/-- R152, R153: a grant that is made starts a frame that was waiting. -/
theorem grant_some (s : State) (h : s.dec.sending = none) (hh : s.dec.held = false)
    (hl : lanesNonEmpty s.dec.lanes = true) :
    ∃ lane count f rest isCut, nextLane s.dec.lanes s.dec.grants = some (lane, count) ∧
      takeFrom lane s.dec.lanes = some (f, rest, isCut) ∧
      grant s = startPortD f lane isCut { s with dec.lanes := rest, dec.grants := count } := by
  cases hn : nextLane s.dec.lanes s.dec.grants with
  | none => rw [((nextLane_takeFrom s.dec.lanes s.dec.grants).1).mp hn] at hl; cases hl
  | some x =>
    obtain ⟨lane, count⟩ := x
    obtain ⟨⟨f, rest, isCut⟩, ht⟩ := Option.isSome_iff_exists.mp ((nextLane_takeFrom s.dec.lanes s.dec.grants).2 lane count hn)
    exact ⟨lane, count, f, rest, isCut, rfl, ht, by simp [grant, h, hh, hn, ht]⟩

end Sys2Proof.Machine
end

