-- ==== Sys2Proof/Tests/Slice0.lean ====
section
/-! SUPPORT. The row's own tests: an ill-formed term for each well-formedness check, small tests of each command with
values from the spec's worked sequences and rules, and a concrete state and operands for the hypotheses of every
statement in Certificates/Slice0/Obligations.lean. -/

namespace Sys2Proof.Tests

set_option Elab.async false

open Sys2Proof Sys2Proof.Machine

/-! ### Builders -/

/-- The state a command leaves. -/
def after (c : Instr) (s : State) : State :=
  match exec c s with
  | .next t => t
  | .fault _ => s
  | .refused _ => s

/-- A frame from node 1 to the part at strap value 2. -/
def frame (cls : BitVec 4) (payload : List Byte) : Frame :=
  { cls := cls, flags := 0, dst := 42, src := 1, dstHigh := 0, srcHigh := 0, payload := payload }

/-- A request from node 1. -/
def request (args : List Byte) : Request := { source := 1, args := args, overLength := false }

def section_ (id : Half) (route : Byte) (start stop : Half) (kind : Byte) (cap : Half) (profile : Byte) : SectionEntry :=
  { valid := true, id := id, route := route, start := start, stop := stop, kind := kind, cap := cap, profile := profile }

def sectionTable (l : List SectionEntry) : SectionTable := Vector.ofFn fun i => l.getD i.val .invalid

/-- The section table of 1.2, and the shadow of 1.8. -/
def table12 : SectionTable := sectionTable
  [section_ 101 7 0 1200 0 450 0, section_ 102 7 1200 1215 2 0 0, section_ 103 7 1215 2400 0 400 0,
    section_ 900 255 2400 2480 1 300 1, section_ 1204 12 2400 2480 1 250 2, section_ 104 7 2480 3000 0 420 0]

def table18 : SectionTable := sectionTable
  [section_ 101 7 0 1200 0 450 0, section_ 102 7 1200 1218 2 0 0, section_ 103 7 1218 2400 0 400 0,
    section_ 900 255 2400 2480 1 300 1, section_ 1204 12 2400 2480 1 250 2, section_ 104 7 2480 3000 0 420 0]

/-- The part at node 42 after reset. -/
def base : State := { State.reset with strap := 2 }

/-- The part with the table of 1.2 active. -/
def mapped : State := { base with sct.active := table12 }

/-- A view with the frog entry 900 matched, and with the insulator 102. -/
def frogView : View := { kind := .frog, cap := 300, profile := 1, id := 900, known := true }
def insulatorView : View := { kind := .insulator, cap := 0, profile := 0, id := 102, known := true }
def liveView : View := { kind := .live, cap := 450, profile := 0, id := 101, known := true }

/-- A channel in a state, its previous angle and counts given. -/
def chan (state : PoleState) (prev : Option Nat) (suspect good : Nat) : Channel :=
  { Channel.fresh .autonomous 10 with
    state := state
    prevAngle := prev
    suspect := suspect
    good := good }

/-- The part with the P channel as given. -/
def withP (c : Channel) : State := { base with pwu.chP := c }

def sample (seq : Byte) (angle : Half) (contact hook : Bool) : Sample :=
  { seq := seq, angle := angle, contact := contact, hook := hook, volts := 600 }

/-- The aux table of 7.9. -/
def auxTable : AuxTable := Vector.ofFn fun i =>
  ([⟨true, 20, 25, 0, 0, 0, true⟩, ⟨true, 21, 40, 2, 5000, 10000, true⟩, ⟨true, 22, 60, 4, 30000, 60000, false⟩,
    ⟨true, 23, 80, 5, 30000, 12000, false⟩, ⟨true, 24, 10, 1, 0, 0, true⟩] : List AuxEntry).getD i.val .invalid

/-- A load record in state ON with an admission order. -/
def onLoad (order : Nat) : LoadRec :=
  { LoadRec.reset with
    state := .on
    requested := true
    admitted := some 0
    order := some order }

/-- A record of a mode with a supply allowance and an aux cap. -/
def record (mode : SupplyMode) (supply auxCap motoring regen : Nat) : BudgetRecord :=
  { mode := mode, supply := supply, auxCap := auxCap, motoring := motoring, regen := regen, reservation := 0 }

/-- The part of 7.9 before its first row: loads 1, 2, 3 and 5 ON, R 135, in WIRE with an aux cap of 350. -/
def aux79 : State :=
  { base with
    axs.active := auxTable
    axs.loads := Vector.ofFn fun i =>
      ([onLoad 1, onLoad 2, onLoad 3, LoadRec.reset, onLoad 4] : List LoadRec).getD i.val LoadRec.reset
    axs.reservation := 135
    axs.orderCount := 4
    axs.record := record .wire 450 350 315 400 }

/-- The same with the aux table open, the entry of load 2 invalid in its shadow. -/
def retiring : State :=
  { aux79 with
    mge.openTable := some { table := .aux, owner := 1, tOpen := 5000 }
    axs.shadow := some (auxTable.set 1 { auxTable[1] with valid := false }) }

/-- The part with the P command slot as given. -/
def withSlot (x : Slot) : State := { base with pli.slotP := x }

def waitingSlot (cmd : RetrieverCmd) (tx : Nat) : Slot :=
  { state := .waiting, cmd := some cmd, tx := tx, entry := 0, tCmd := some 20, linePending := false }

/-- The part with the P command on the line. -/
def sendingP (tx : Nat) : State :=
  { withSlot { waitingSlot .pullDown tx with state := .sending } with
    pli.sending := some { pole := .p, cmd := .pullDown, wire := commandWire .p .pullDown, orphan := false } }

/-- A Port S frame with its check sequence. -/
def lineFrame (source : BitVec 4) (kind : BitVec 2) (dst : BitVec 4) (payload : List Byte) : List Byte :=
  let body := [((0 : BitVec 2) ++ source ++ kind : BitVec 8), (dst ++ BitVec.ofNat 4 payload.length : BitVec 8)] ++ payload
  body ++ be16 (crc16 body)

/-- A record of the alarm list. -/
def alarm (key : AlarmKey) (state : AlarmState) (acted : Option Bool) (repeats : Nat) : AlarmRec :=
  { key := key, state := state, acted := acted, first := 12, last := 12, repeats := repeats, sectionId := some 900,
    chainage := some 2445, volts := 600 }

/-- The part with an open table 3 of node 1. -/
def opened : State :=
  { base with mge.openTable := some { table := .parameter, owner := 1, tOpen := 5000 } }

/-! ### Well-formedness: each check refuses an ill-formed term -/

theorem test_wf_payload_over_32 : (Instr.positionFrame (frame 4 (List.replicate 33 0))).wf = false := by decide
theorem test_wf_source_zero : (Instr.positionFrame { frame 4 [7, 0, 0] with src := 0 }).wf = false := by decide
theorem test_wf_class_position : (Instr.positionFrame (frame 1 [7, 0, 0])).wf = false := by decide
theorem test_wf_class_demand : (Instr.tractionDemand (frame 4 [0, 0])).wf = false := by decide
theorem test_wf_class_segment : (Instr.mgmtSegment (frame 4 [1])).wf = false := by decide
theorem test_wf_class_drive_status : (Instr.driveStatus (frame 10 [0, 0])).wf = false := by decide
theorem test_wf_class_aux_status : (Instr.auxStatus (frame 9 [1, 0])).wf = false := by decide
theorem test_wf_request_on_asks_off : (Instr.auxRequestOn (frame 2 [1, 0])).wf = false := by decide
theorem test_wf_request_off_asks_on : (Instr.auxRequestOff (frame 2 [1, 1])).wf = false := by decide
theorem test_wf_request_class : (Instr.auxRequestOn (frame 3 [1, 1])).wf = false ∧
    (Instr.auxRequestOff (frame 3 [1, 0])).wf = false := by decide
theorem test_wf_segment_timer_source_zero : (Instr.tSegExpiry 0).wf = false := by decide
theorem test_wf_view_cap : (Instr.sectionViewAtPwu { liveView with cap := 1024 }).wf = false := by decide
theorem test_wf_view_profile : (Instr.sectionViewAtSmc { liveView with profile := 4 }).wf = false := by decide
theorem test_wf_view_id : (Instr.sectionViewAtCbu { liveView with id := 4096 }).wf = false := by decide
theorem test_wf_view_default_kind : (Instr.sectionViewAtPwu { frogView with id := 0 }).wf = false := by decide
theorem test_wf_view_unknown_matched : (Instr.sectionViewAtPwu { liveView with known := false }).wf = false := by decide
theorem test_wf_record_ranges : (Instr.budgetRecordAtTau (record .wire 1024 0 0 0)).wf = false ∧
    (Instr.budgetRecordAtTau (record .wire 0 1024 0 0)).wf = false ∧
    (Instr.budgetRecordAtAxs (record .wire 0 0 1024 0)).wf = false ∧
    (Instr.budgetRecordAtAxs (record .wire 0 0 0 1024)).wf = false ∧
    (Instr.budgetRecordAtAxs { record .wire 0 0 0 0 with reservation := 4081 }).wf = false := by decide
theorem test_wf_reservation : (Instr.reservationAtCbu 4081).wf = false := by decide
theorem test_wf_acted_of_other_key : (Instr.alarmRaise .noLine true).wf = false := by decide
theorem test_wf_request_source_zero : (Instr.readIdent { request [] with source := 0 }).wf = false := by decide
theorem test_wf_request_too_long : (Instr.tableWrite (request (List.replicate 128 0))).wf = false := by
  decide +kernel
theorem test_wf_unknown_request_is_known : (Instr.unknownRequest (request [16])).wf = false := by decide
theorem test_wf_unknown_request_source_zero : (Instr.unknownRequest { request [17] with source := 0 }).wf = false := by
  decide +kernel
theorem test_wf_unknown_request_too_long : (Instr.unknownRequest (request (List.replicate 129 0))).wf = false := by
  decide +kernel
theorem test_wf_accepts : (Instr.positionFrame (frame 4 [7, 4, 0x4C])).wf = true ∧
    (Instr.unknownRequest (request [17])).wf = true ∧ (Instr.alarmRaise (.poleDrop .p) true).wf = true := by decide

/-! ### Codes on the wire -/

/-- R181: the check value of CRC-16/CCITT-FALSE over the digits 1 to 9. -/
theorem test_crc_check_value : crc16 [0x31, 0x32, 0x33, 0x34, 0x35, 0x36, 0x37, 0x38, 0x39] = 0x29B1 := by decide +kernel

/-- The table gives no row any bits, so no word spells a command. -/
theorem test_no_row_has_bits : decodeTableWord 16 0 = none ∧ base.withFetchWord 16 0 = base := by decide +kernel

/-! ### The Section Tracker -/

/-- 1.2: route 7 at 1199 m, 1200 m and 2440 m, and route 12 at 2440 m. -/
theorem test_lookup_examples : lookupSection table12 7 1199 = some 0 ∧ lookupSection table12 7 1200 = some 1 ∧
    lookupSection table12 7 2440 = some 3 ∧ lookupSection table12 12 2440 = some 4 ∧
    lookupSection table12 7 3100 = none := by decide +kernel

/-- 1.8, steps 2 and 9. -/
theorem test_position_frame : (after (.positionFrame (frame 4 [7, 4, 0xB5])) mapped).sct.view = insulatorView ∧
    (after (.positionFrame (frame 4 [255, 9, 0xC4])) mapped).upi.err.last = some .badField := by decide +kernel

/-- The part of 1.8 after step 4: the commit held, the insulator published. -/
def deferred18 : State :=
  { mapped with
    sct.pendingTbl := some table18
    sct.position := some (7, 1212)
    sct.matched := some 1
    sct.view := insulatorView }

/-- 1.8, step 5: the swap lands in the lengthened insulator and nothing is published. -/
theorem test_position_ends_deferral : (after (.positionFrame (frame 4 [7, 4, 0xC0])) deferred18).sct.pendingTbl = none ∧
    (after (.positionFrame (frame 4 [7, 4, 0xC0])) deferred18).upi.groupB.length = 1 := by decide +kernel

/-- 1.8, step 8. -/
theorem test_t_pos_expiry : (after .tPosExpiry { mapped with sct.view := frogView }).sct.view =
      { kind := .live, cap := 500, profile := 0, id := 0, known := false } ∧
    Instr.alarmRaise .positionLost false ∈ (after .tPosExpiry { mapped with sct.view := frogView }).handed := by
  decide +kernel

/-- R8: the default section takes the new cap. -/
theorem test_sct_parameter_commit :
    (after .sctParameterCommit { base with mge.params := defaultParams.set 14 350 }).sct.view.cap = 350 := by
  decide +kernel

/-- R13: an end at its start fails, and so does an overlap, at the higher index. -/
theorem test_section_walk : firstBadSection table12 = none ∧ firstBadSection table18 = none ∧
    firstBadSection (sectionTable [section_ 1 7 5 5 0 0 0]) = some 0 ∧
    firstBadSection (sectionTable [section_ 1 7 0 6 0 0 0, section_ 2 7 5 9 0 0 0]) = some 1 ∧
    firstBadSection (sectionTable [section_ 1 7 0 5 0 0 0, section_ 2 7 5 9 0 0 0]) = none := by decide +kernel

/-! ### The Pole Watch Unit -/

/-- A frog view recorded, P on the wire with previous angle and count. -/
def atFrog (state : PoleState) (prev suspect : Nat) : State :=
  { withP (chan state (some prev) suspect 0) with pwu.view := frogView }

/-- 2.10, step 6: a fast rise from SUSPECT ends in RETRIEVING. -/
theorem test_sample_fast_rise :
    (after (.sampleAccepted .p (sample 1 610 false false)) (atFrog .suspect 530 1)).pwu.chP.state = .retrieving := by
  decide +kernel

/-- 2.10, steps 3 and 9. -/
theorem test_sample_bounce_and_stow :
    (after (.sampleAccepted .p (sample 1 505 false false)) (atFrog .suspect 500 1)).pwu.chP.suspect = 2 ∧
    (after (.sampleAccepted .p (sample 1 60 false true)) (atFrog .retrieving 420 0)).pli.slotP.cmd = some .hold := by
  decide +kernel

/-- R36. -/
theorem test_t_smp_expiry : (after (.tSmpExpiry .p) base).pwu.chP.state = .lost := by decide +kernel

/-- R37. -/
theorem test_t_raise_expiry :
    (after (.tRaiseExpiry .n) { base with pwu.chN.tRaise := some 0 }).pwu.chN.state = .lowering ∧
    (after (.tRaiseExpiry .n) { base with pwu.chN.tRaise := some 0 }).pwu.chN.tRetr = some 3000 := by decide +kernel

/-- 2.10, step 8. -/
theorem test_t_retr_expiry : (after (.tRetrExpiry .p) { base with pwu.chP.tRetr := some 0 }).handed =
    [.alarmRaise (.retrieveFail .p) false] := by decide +kernel

/-- R40. -/
theorem test_section_view_at_pwu : (after (.sectionViewAtPwu frogView) base).pwu.view = frogView := by decide +kernel

/-! ### The Pole Line Interface -/

/-- A well-formed sample of P, sequence 9, angle 470, contact, 600 V, by R182. -/
def sampleBytes : List Byte := [9, 0x01, 0xD6, 0x01, 0x02, 0x58]

/-- R47 to R49. -/
theorem test_port_s_frame : (after (.portSFrameReceived (lineFrame 2 1 1 sampleBytes)) base).pli.seqP = some 9 ∧
    (after (.portSFrameReceived (lineFrame 2 1 1 sampleBytes)) { base with pli.seqP := some 9 }).handed = [] := by
  decide +kernel

/-- R51. -/
theorem test_command_tx_start :
    (after .commandTxStart (withSlot (waitingSlot .pullDown 0))).pli.slotP.state = .sending := by decide +kernel

/-- 3.6, step 2. -/
theorem test_arbitration_lost : (after .arbitrationLost (sendingP 0)).pli.slotP = waitingSlot .pullDown 0 := by
  decide +kernel

/-- 3.6, steps 3 and 7. -/
theorem test_command_tx_end : (after (.commandTxEnd false) (sendingP 0)).pli.slotP = waitingSlot .pullDown 1 ∧
    (after (.commandTxEnd false) (sendingP 3)).pli.slotP.state = .spent ∧
    (after (.commandTxEnd true) (sendingP 3)).pli.slotP.state = .empty := by decide +kernel

/-- 3.6, step 8. -/
theorem test_t_cmd_expiry : (after (.tCmdExpiry .p) (withSlot (waitingSlot .pullDown 4))).handed =
    [.alarmRaise .poleLineFault false] := by decide +kernel

/-! ### The Supply Mode Controller -/

/-- Both poles in the states given. -/
def poles (p n : PoleState) : State := { base with pwu.chP := chan p none 0 0, pwu.chN := chan n none 0 0 }

/-- R58: an acted drop gives DEWIRED. -/
theorem test_pole_report :
    (after (.poleReport .p .retrieving true)
      { poles .retrieving .onWire with pwu.chP.lastDropActed := true }).smc.mode = .dewired := by decide +kernel

/-- R58, R60: both poles up in an insulator. -/
theorem test_section_view_at_smc :
    (after (.sectionViewAtSmc insulatorView) { poles .onWire .suspect with sct.view := insulatorView }).smc.mode =
      .gap .insulator := by decide +kernel

/-- 4.7, step 4 of the second order. -/
theorem test_pole_drop_ack_report :
    (after (.poleDropAckReport .p) { poles .stowed .stowed with smc.mode := .dewired, smc.latch := true }).smc.mode =
      .battery := by decide +kernel

/-- 4.8, 370 ms. -/
theorem test_no_line_timer_expiry :
    (after .noLineTimerExpiry { base with smc.mode := .wire, smc.noLine := some 0 }).handed =
      [.alarmRaise .noLine false, .modeAtCbu .noLine] := by decide +kernel

/-! ### The Current Budget Unit -/

/-- The part of 5.7 in WIRE on its 450 A section, R 125, P at 478 V. -/
def case57 (voltsN : BitVec 10) : State :=
  { base with
    sct.view := liveView
    cbu := { voltsP := 478, voltsN := voltsN, cap := 450, record := { record .wire 0 0 0 0 with reservation := 125 },
             published := record .wire 0 0 0 0 } }

/-- 5.7, steps 1 and 4a. -/
theorem test_voltage_sample : (after (.voltageSample .n 470) (case57 0)).cbu.record =
      { mode := .wire, supply := 291, auxCap := 191, motoring := 166, regen := 400, reservation := 125 } ∧
    (after (.voltageSample .n 430) (case57 0)).cbu.record =
      { mode := .wire, supply := 125, auxCap := 25, motoring := 0, regen := 400, reservation := 125 } := by
  decide +kernel

/-- 5.7, step 4b. -/
theorem test_reservation_at_cbu : (after (.reservationAtCbu 25) (case57 430)).cbu.record =
    { mode := .wire, supply := 125, auxCap := 25, motoring := 100, regen := 400, reservation := 25 } := by
  decide +kernel

/-- R77: the row of GAP (DEAD). -/
theorem test_mode_at_cbu : (after (.modeAtCbu (.gap .dead)) (case57 470)).cbu.record =
    { mode := .gap .dead, supply := 150, auxCap := 50, motoring := 25, regen := 100, reservation := 125 } := by
  decide +kernel

/-- R79, event 3: CBU stores the cap of the view. -/
theorem test_section_view_at_cbu : (after (.sectionViewAtCbu frogView) { case57 600 with
    cbu.voltsP := 600 }).cbu.record.supply = 300 := by decide +kernel

/-- 10.8, step 6: V_min 430 gives a taper of 222 A at 470 V. -/
theorem test_cbu_parameter_commit :
    (after .cbuParameterCommit { case57 470 with mge.params := defaultParams.set 1 430 }).cbu.record.supply = 222 := by
  decide +kernel

/-- R82: the commit taken before the view gives the new parameters with the old default cap, 500 A. -/
theorem test_cbu_commit_before_view : (after .cbuParameterCommit (after .sctParameterCommit { base with
      mge.params := (defaultParams.set 0 600).set 14 550
      cbu.voltsP := 600
      cbu.voltsN := 600
      cbu.record.mode := .wire })).cbu.record.supply = 500 := by decide +kernel

/-! ### The Traction Admission Unit -/

/-- TAU with the record of 5.7, step 1 and an admitted demand. -/
def tau57 (admitted : Int) : State :=
  { base with tau.record := record .wire 291 191 166 400, tau.admitted := admitted }

/-- 5.7, steps 2 and 3: +300 A is 0x012C. -/
theorem test_traction_demand : (after (.tractionDemand (frame 1 [0x01, 0x2C])) (tau57 120)).tau.admitted = 160 ∧
    (after (.tractionDemand (frame 1 [0x01, 0x2C])) (tau57 160)).dec.lanes.lane1.map Frame.payload =
      some [0x00, 0xA6, 0x01, 0x2C, 2] := by decide +kernel

/-- 5.7, step 6: −250 A is 0xFF06. -/
theorem test_traction_demand_reversal :
    (after (.tractionDemand (frame 1 [0xFF, 0x06])) (tau57 160)).tau.admitted = -40 := by decide +kernel

/-- 5.7, step 4, first reader. -/
theorem test_budget_record_at_tau : (after (.budgetRecordAtTau (record .wire 125 25 0 400)) (tau57 166)).tau.admitted = 0 ∧
    (after (.budgetRecordAtTau (record .wire 125 25 0 400)) (tau57 166)).dec.lanes.lane1.map Frame.payload =
      some [0, 0, 0, 0, 2] := by decide +kernel

/-- 6.10, 1100 ms. -/
theorem test_t_stale_expiry : (after .tStaleExpiry { tau57 166 with tau.requested := 300, tau.tStale := some 0 }).upi.groupB =
    [.notice (builtFrame 7 1 42 [5, 0x00, 0xA6, 0x01, 0x2C])] := by decide +kernel

/-- 6.9, 12 ms; and the cause of a waiting cut frame is changed. -/
theorem test_cut_request : (after (.cutRequest .dewired) (tau57 166)).dec.lanes.cut =
      some (builtFrame 0 10 42 [0, 0, 1]) ∧
    (after (.cutRequest .dewired) (after (.cutRequest .unresolved) base)).dec.lanes.cut =
      some (builtFrame 0 10 42 [0, 0, 1]) := by decide +kernel

/-- 6.9, 120 ms and 150 ms. -/
theorem test_drive_status : (after (.driveStatus (frame 9 [0x00, 0x8C])) { base with tau.window := true }).tau.window = true ∧
    (after (.driveStatus (frame 9 [0x00, 0x09])) { base with tau.window := true }).tau.window = false := by decide +kernel

/-- R100. -/
theorem test_t_cut_expiry : (after .tCutExpiry { base with tau.window := true, tau.tCut := some 0 }).tau.unconfirmed = true := by
  decide +kernel

/-! ### The Auxiliary Scheduler -/

/-- 7.9, 0 ms: load 4 is admitted and R is 215. -/
theorem test_aux_request_on : (after (.auxRequestOn (frame 2 [4, 1])) aux79).axs.reservation = 215 ∧
    (loadRec (after (.auxRequestOn (frame 2 [4, 1])) aux79) 3).minOn = some 30000 := by decide +kernel

/-- R112: load 2 goes OFF and its minimum-off timer starts. -/
theorem test_aux_request_off : (after (.auxRequestOff (frame 2 [2, 0])) aux79).axs.reservation = 95 ∧
    (loadRec (after (.auxRequestOff (frame 2 [2, 0])) aux79) 1).minOff = some 10000 := by decide +kernel

/-- 7.9, 1000 ms: loads 4, 3 and 2 are shed in this order, and R is 35. -/
theorem test_budget_record_at_axs :
    (after (.budgetRecordAtAxs (record (.gap .dead) 150 50 0 100))
      (after (.auxRequestOn (frame 2 [4, 1])) aux79)).axs.joinOrder = [3, 2, 1] ∧
    (after (.budgetRecordAtAxs (record (.gap .dead) 150 50 0 100))
      (after (.auxRequestOn (frame 2 [4, 1])) aux79)).axs.reservation = 35 := by decide +kernel

/-- R120. -/
theorem test_min_on_expiry : (loadRec (after (.minOnExpiry 1) (setLoad 1 { onLoad 2 with minOn := some 0 } aux79)) 1) =
    onLoad 2 := by decide +kernel

/-- Load 4 waits for its minimum-off timer. -/
def waits4 : State :=
  joinWaiting 3 (setLoad 3 { LoadRec.reset with state := .waiting, requested := true, minOff := some 0 } aux79)

/-- R121: the load is admitted as its timer expires. -/
theorem test_min_off_expiry : (loadRec (after (.minOffExpiry 3) waits4) 3).state = .on := by decide +kernel

/-- R122: a larger margin keeps load 4 out, and a smaller one lets it in. -/
theorem test_axs_parameter_commit :
    (loadRec (after .axsParameterCommit (setLoad 3 { loadRec waits4 3 with minOff := none } waits4)) 3).state = .on := by
  decide +kernel

/-- R124, R125: a fault takes load 2 out of ON; running with its load OFF, load 4 is told OFF. -/
theorem test_aux_status : (loadRec (after (.auxStatus { frame 10 [2, 3] with src := 21 }) aux79) 1).state = .fault ∧
    (after (.auxStatus { frame 10 [4, 1] with src := 23 }) aux79).dec.lanes.slots =
      [(3, builtFrame 3 23 42 [4, 0])] := by decide +kernel

/-- Load 4 on the waiting list, and eligible. -/
def waitsEligible4 : State := joinWaiting 3 (setLoad 3 { LoadRec.reset with state := .waiting, requested := true } aux79)

/-- R114: the pass that a fault of load 2 runs admits load 4 at the end of the event, after the OFF of R125. -/
theorem test_aux_status_pass_last :
    (after (.auxStatus { frame 10 [2, 3] with src := 21 }) waitsEligible4).dec.lanes.slots =
      [(1, builtFrame 3 21 42 [2, 0]), (3, builtFrame 3 23 42 [4, 1])] := by decide +kernel

/-! ### The Alarm List -/

/-- 8.9, 6012 ms: a repeat. -/
theorem test_alarm_raise :
    (after (.alarmRaise (.retrieveFail .p) false) { base with
      alm := [alarm (.retrieveFail .p) .raisedUnacked none 1] }).alm.map AlarmRec.repeats = [2] := by decide +kernel

/-- R9: a POSITION_LOST record has no section ID and no chainage, though a position was accepted before the raise is taken;
R135: another record has both. -/
theorem test_alarm_raise_position_lost :
    (after (.alarmRaise .positionLost false) deferred18).alm.map (fun r => (r.sectionId, r.chainage)) = [(none, none)] ∧
    (after (.alarmRaise .noLine false) deferred18).alm.map (fun r => (r.sectionId, r.chainage)) =
      [(some 102, some 1212)] := by decide +kernel

/-- 8.9, 6500 ms: an acknowledged record is removed and reported. -/
theorem test_alarm_clear :
    (after (.alarmClear (.poleDrop .p)) { base with
      alm := [alarm (.poleDrop .p) .raisedAcked (some true) 1] }).alm = [] ∧
    (after (.alarmClear (.poleDrop .p)) { base with
      alm := [alarm (.poleDrop .p) .raisedAcked (some true) 1] }).handed = [.poleDropAckReport .p] := by decide +kernel

/-! ### The frame paths -/

/-- R148: a position frame is delivered, and a class 6 frame refused. -/
theorem test_port_u_frame : (after (.portUFrameReceived (frameWire (frame 4 [7, 4, 0x4C]))) base).handed =
      [.positionFrame (frame 4 [7, 4, 0x4C])] ∧
    (after (.portUFrameReceived (frameWire (frame 6 []))) base).upi.err.last = some .classRefused := by decide +kernel

/-- R149: a status of the inverter is passed up and watched; R147: a wrong check sequence. -/
theorem test_port_d_frame :
    (after (.portDFrameReceived (frameWire { frame 9 [0, 9] with src := 10 })) base).handed =
      [.driveStatus { frame 9 [0, 9] with src := 10 }] ∧
    (after (.portDFrameReceived ((frameWire (frame 9 [0, 9])).dropLast ++ [0x55])) base).dec.err.last =
      some .checkFailed := by decide +kernel

/-- Lanes 1 and 2 waiting, with a grant count. -/
def busy (grants : Nat) : State :=
  { base with
    dec.lanes := { Lanes.empty with lane1 := some (frame 1 [0, 0]), slots := [(1, frame 3 [2, 1])] }
    dec.grants := grants }

/-- 9.9, grants 1 and 17. -/
theorem test_port_d_grant : (after .portDGrant (busy 0)).dec.grants = 1 ∧ (after .portDGrant (busy 15)).dec.grants = 16 ∧
    (after .portDGrant (busy 16)).dec.grants = 0 ∧ (after .portDGrant (busy 16)).dec.lanes.slots = [] := by decide +kernel

/-- TAU's cut frame on the wire. -/
def cutOnWire : State :=
  { base with dec.sending := some { wire := [], lane := .safety, cut := true, orphan := false } }

/-- 6.9, 81 ms. -/
theorem test_port_d_tx_end : (after .portDTxEnd cutOnWire).tau.tCut = some 100 := by decide +kernel

/-- R155, R156. -/
theorem test_hold_start : (after .holdStart (busy 0)).dec.tHeld = some 50 ∧ (after .holdStart base).dec.tHeld = none := by
  decide +kernel

/-- R155. -/
theorem test_hold_end : (after .holdEnd { busy 0 with dec.held := true }).dec.sending.isSome = true := by decide +kernel

/-- R156. -/
theorem test_hold_timer_expiry :
    (after .holdTimerExpiry { busy 0 with dec.held := true, dec.tHeld := some 0 }).dec.linkHeld = true := by decide +kernel

/-- 9.10, step 4: the gap flag. -/
theorem test_upstream_tx_start :
    (after .upstreamTxStart { base with upi.noticeLost := true, upi.groupB := [.notice (frame 7 [8])] }).upi.sending =
      some { wire := frameWire { frame 7 [8] with flags := 1 }, restart := false } := by decide +kernel

/-- R178. -/
theorem test_upstream_tx_end :
    (after .upstreamTxEnd { aux79 with upi.sending := some { wire := [], restart := true } }).dec.lanes.cut =
      some (builtFrame 0 10 42 [0, 0, 3]) ∧
    (after .upstreamTxEnd { aux79 with upi.sending := some { wire := [], restart := true } }).axs.reservation = 0 := by
  decide +kernel

/-- R179: the strap pins and the hold's level are not the part's to reset. -/
theorem test_power_on_reset : (after .powerOnReset { aux79 with dec.held := true }) =
    { State.reset with strap := 2, dec.held := true } := by decide +kernel

/-- R55, R161: the frame met under way on each port is not acted on, and PLI waits until it has ended. -/
theorem test_frames_under_way : let s := after .powerOnReset { base with found := ⟨true, true, true⟩ }
    s.pli.lineBusy = true ∧ { after (.portUFrameReceived []) (after (.portDFrameReceived [])
      (after (.portSFrameReceived (lineFrame 2 1 1 sampleBytes)) s)) with found := ⟨false, false, false⟩ } = base := by
  decide +kernel

/-- R55: a frame that has won arbitration and has not ended is one that a power-on reset meets under way. -/
theorem test_winner_under_way : (after .powerOnReset (after .arbitrationLost (sendingP 0))).pli.underWay = true := by
  decide +kernel

/-! ### The Management Engine -/

/-- R162: the last segment completes a request. -/
theorem test_mgmt_segment : (after (.mgmtSegment { frame 5 [3, 2] with flags := 2 }) base).mge.queue =
      [{ source := 1, payload := [3, 2], overLength := false, assembly := .assembling 100 }] ∧
    (after (.mgmtSegment (frame 5 [1])) base).mge.orderCount = 1 := by decide +kernel

/-- R163. -/
theorem test_t_seg_expiry :
    (after (.tSegExpiry 1) (after (.mgmtSegment { frame 5 [3, 2] with flags := 2 }) base)).mge.queue = [] := by
  decide +kernel

/-- The payloads of the responses placed. -/
def answers (s : State) : List (List Byte) :=
  s.upi.groupA.filterMap fun x => match x with
    | .response f _ => some f.payload
    | .alarm _ _ => none

/-- R187. -/
theorem test_read_ident : answers (after (.readIdent (request [])) base) =
    [[1, 0, 0x31, 0xC4, 0x04, 0x12, 1, 42, 128, 16, 4, 27, 5]] := by decide +kernel

/-- R187: 60 bytes in two segments. -/
theorem test_read_state : (answers (after (.readState (request [])) base)).map List.length = [32, 28] := by decide +kernel

/-- R187: 163 bytes in six segments, four of them placed. -/
theorem test_read_loads : (after (.readLoads (request [])) base).mge.toPlace.length = 2 := by decide +kernel

/-- R134. -/
theorem test_read_alarms : (answers (after (.readAlarms (request [])) { base with
    alm := [alarm .noLine .raisedUnacked none 1] })).map (List.take 4) = [[4, 0, 1, 11]] := by decide +kernel

/-- 8.9, 8000 ms. -/
theorem test_ack_alarm : answers (after (.ackAlarm (request [255])) { base with
      alm := [alarm (.retrieveFail .p) .clearedUnacked none 2] }) = [[5, 0, 1]] ∧
    answers (after (.ackAlarm (request [3])) base) = [[5, 10]] := by decide +kernel

/-- 2.11, steps 3 and 6. -/
theorem test_pole_raise : answers (after (.poleRaise (request [3])) (poles .stowed .retrieving)) = [[6, 2]] ∧
    (after (.poleRaise (request [3])) (poles .stowed .stowed)).pli.slotN.cmd = some .release := by decide +kernel

/-- R35. -/
theorem test_pole_lower : (after (.poleLower (request [2])) (poles .stowed .onWire)).pwu.chN.state = .lowering ∧
    answers (after (.poleLower (request [3])) (poles .retrieving .onWire)) = [[7, 2]] := by decide +kernel

/-- R20. -/
theorem test_set_act_mask : (after (.setActMask (request [1, 1])) base).pwu.chP.mask = .reportOnly ∧
    answers (after (.setActMask (request [3, 1])) base) = [[8, 7]] := by decide +kernel

/-- 10.8, steps 1 and 10. -/
theorem test_table_open : (after (.tableOpen (request [3])) base).mge.openTable =
      some { table := .parameter, owner := 1, tOpen := 5000 } ∧
    answers (after (.tableOpen (request [2])) { base with mge.lock := true }) = [[9, 3]] := by decide +kernel

/-- 10.8, steps 2 and 3. -/
theorem test_table_write :
    answers (after (.tableWrite { request [3, 2, 1, 1, 0xC2] with source := 5 }) opened) = [[10, 5]] ∧
    (after (.tableWrite (request [3, 1, 4, 0x01, 0xAE, 0x02, 0x08, 0x01, 0xC2, 0x01, 0xE0])) opened).mge.shadow =
      some ((((defaultParams.set 1 430).set 2 520).set 3 450).set 4 480) := by decide +kernel

/-- 10.8, step 11, on the default table. -/
theorem test_table_read : answers (after (.tableRead (request [3, 1, 2])) base) =
    [[11, 0, 3, 1, 2, 0x01, 0x90, 0x02, 0x08]] := by decide +kernel

/-- 10.8, steps 4 and 6. -/
theorem test_table_commit :
    answers (after (.tableCommit (request [3])) { opened with
      mge.shadow := some ((((defaultParams.set 1 430).set 2 520).set 3 450).set 4 480) }) = [[12, 8, 3]] ∧
    (after (.tableCommit (request [3])) { opened with
      mge.shadow := some (((defaultParams.set 1 430).set 3 300).set 4 480) }).mge.params[3] = 300 := by decide +kernel

/-- R128: the entry of load 2, ON at 40 A, becomes invalid: OFF to its old node 21, and a notice with R 95. -/
theorem test_table_commit_aux :
    (after (.tableCommit (request [1])) retiring).dec.lanes.slots = [(1, builtFrame 3 21 42 [2, 0])] ∧
    (loadRec (after (.tableCommit (request [1])) retiring) 1).minOff = some 10000 ∧
    (after (.tableCommit (request [1])) retiring).upi.groupB =
      [.notice (builtFrame 7 1 42 [6, 2, 2, 0, 8, 0, 95])] := by decide +kernel

/-- R173. -/
theorem test_table_abandon : (after (.tableAbandon (request [3])) opened).upi.groupB =
    [.notice (builtFrame 7 1 42 [7, 3, 1, 1])] := by decide +kernel

/-- R173. -/
theorem test_t_open_expiry : (after .tOpenExpiry opened).upi.groupB = [.notice (builtFrame 7 1 42 [7, 3, 1, 2])] := by
  decide +kernel

/-- 10.8, step 8. -/
theorem test_lock_settings : (after (.lockSettings { request [] with source := 5 }) opened).upi.groupB =
      [.notice (builtFrame 7 1 42 [7, 3, 1, 3])] ∧
    (after (.lockSettings (request [])) { base with pwu.chP.mask := .reportOnly }).pwu.chP.mask = .autonomous := by
  decide +kernel

/-- R168: NO_ACK of Port S is bit 17 of the mask. -/
theorem test_read_errors : answers (after (.readErrors (request [2, 0, 0])) { base with
      pli.err := { last := some .noAck, flags := 0x21 } }) = [[15, 0, 0, 0, 0, 0, 6, 0x21]] ∧
    (after (.readErrors (request [2, 0, 0])) { base with
      pli.err := { last := some .noAck, flags := 0x21 } }).pli.err.flags = 1 := by decide +kernel

/-- R178. -/
theorem test_restart : (after (.restart (request [])) base).upi.groupA =
    [.response (builtFrame 6 1 42 [16, 0]) true] := by decide +kernel

/-- R165, cases 2 and 3. -/
theorem test_unknown_request : answers (after (.unknownRequest (request [])) base) = [[0, 7]] ∧
    answers (after (.unknownRequest (request [17])) base) = [[17, 11]] := by decide +kernel

/-! ### The step -/

/-- The command at the front is taken, and with none waiting a handed event is, and otherwise a millisecond passes. -/
theorem test_step : (match step { base with pending := [.holdStart, .holdEnd] } with
      | .next t => t.dec.held && decide (t.pending = [.holdEnd])
      | _ => false) = true ∧
    (match step { base with handed := [.modeAtCbu .wire] } with
      | .next t => decide (t.cbu.record.mode = .wire)
      | _ => false) = true ∧
    (match step base with
      | .next t => decide (t.ms = 1 ∧ t.sct.tPos = some 1999)
      | _ => false) = true := by decide +kernel

/-! ### Witnesses: a concrete state and operands for the hypotheses of each statement -/

/-! The queue and the step. -/

theorem witness_StepRunsFrontCommand : { base with pending := [.holdStart] }.pending = Instr.holdStart :: [] := rfl

theorem witness_EveryCommandCompletes_timers : (after .tPosExpiry base).sct.tPos = none ∧ base.smc.noLine = none ∧
    base.tau.tStale = none ∧ base.tau.tCut = none ∧ base.dec.tHeld = none ∧ base.mge.openTable = none ∧
    (channel (after (.tSmpExpiry .n) base) .n).tSmp = none ∧ (channel base .p).tRaise = none ∧
    (channel base .n).tRetr = none ∧ (slot base .p).tCmd = none ∧ (loadRec base 15).minOff = none ∧
    (∀ e ∈ base.mge.queue, assemblingOf 1 e = false) := by decide +kernel

theorem witness_EveryCommandCompletes_lines : Instr.holdStart ≠ .powerOnReset ∧ (sendingP 0).pli.sending ≠ none ∧
    { base with pli.lineBusy := true }.pli.lineBusy = true ∧ base.pli.sending = none ∧
    { base with dec.held := true }.dec.held = true ∧ base.dec.held = false ∧ base.dec.sending = none ∧
    base.upi.sending = none := by decide +kernel

/-! The Section Tracker. -/

theorem witness_PositionFrameJudged_ignored : (frame 4 [7, 0]).payload.length ≠ 3 ∧
    (frame 4 [7, 0, 0, 0]).payload.length ≠ 3 ∧ (frame 4 [255, 0, 0]).payload[0]? = some 255 := by decide

theorem witness_PositionFrameJudged_taken : (frame 4 [254, 255, 255]).payload = [254, 255, 255] ∧ (254 : Byte) ≠ 255 ∧
    mapped.sct.pendingTbl = none := by decide +kernel

theorem witness_LookupPrefersRouteEntry : firstBadSection table12 = none := by decide +kernel

theorem witness_TableWalksNameFirstFailure_section : base.sct.shadow = some (Vector.replicate 128 .invalid) ∧
    SectionFails (sectionTable [section_ 1 7 5 5 0 0 0]) 0 := ⟨by decide +kernel, by decide +kernel, .inl (by decide +kernel)⟩

/-- The walks of tables 1, 2 and 4 at the edges of their grounds. -/
theorem witness_TableWalksNameFirstFailure_entries : AuxFails 42 ⟨true, 42, 1, 0, 0, 0, true⟩ ∧
    ¬ AuxFails 42 ⟨true, 41, 1, 0, 0, 0, true⟩ ∧ ProfileFails ⟨550, 40, 5, 80, 150⟩ ∧ ¬ ProfileFails ⟨550, 40, 4, 80, 150⟩ ∧
    ((3 : Byte) ≠ 0 ∧ (3 : Byte) ≠ 1 ∧ (3 : Byte) ≠ 2) := by unfold AuxFails ProfileFails; decide +kernel

theorem witness_TableWalksNameFirstFailure_params : base.mge.shadow = some defaultParams ∧
    ParamFails 42 (defaultParams.set 2 400) 2 ∧ ParamFails 42 (defaultParams.set 15 42) 15 ∧
    ParamFails 42 (defaultParams.set 26 499) 26 :=
  ⟨rfl, .inr (.inl ⟨rfl, by decide +kernel⟩), .inr (.inr (.inr (.inr (.inr ⟨rfl, by decide +kernel⟩)))),
    .inl (by decide +kernel)⟩

theorem witness_PositionEndsDeferral : (frame 4 [7, 4, 0xBE]).payload = [7, 4, 0xBE] ∧ (7 : Byte) ≠ 255 ∧
    deferred18.sct.pendingTbl = some table18 ∧
    isGap (viewOfMatch defaultParams table12 (lookupSection table12 7 1214)).kind = true ∧
    isGap (viewOfMatch defaultParams table12 (lookupSection table12 7 1215)).kind = false := by decide +kernel

theorem witness_PositionLostAndDefaultCap_expiry : { deferred18 with sct.tPos := some 0 }.sct.tPos = some 0 ∧
    mapped.sct.tPos = some 2000 := by decide +kernel

theorem witness_PositionLostAndDefaultCap_commit : deferred18.sct.view.id ≠ 0 ∧ base.sct.view.cap = defaultCap base.mge.params ∧
    base.sct.view.id = 0 ∧ base.sct.view.cap ≠ defaultCap (defaultParams.set 14 501) := by decide +kernel

/-! The Pole Watch Unit: profile 0 has drop angle 550, rate 40, K 2, stowed maximum 80 and band minimum 150. -/

theorem witness_SampleResolvesChannel_stows : (channel base .p).state = .unknown ∧
    (channel (withP (chan .lost none 0 0)) .p).state = .lost ∧ Stows (activeProfile base) 80 true := by
  unfold Stows; decide +kernel

theorem witness_SampleResolvesChannel_wire : ¬ Stows (activeProfile base) 80 false ∧ InBand (activeProfile base) 150 ∧
    InBand (activeProfile base) 549 ∧ (sample 1 549 true false).contact = true := by
  unfold Stows InBand; decide +kernel

theorem witness_SampleResolvesChannel_drops : ¬ Stows (activeProfile base) 81 true ∧
    ¬ (InBand (activeProfile base) 149 ∧ true = true) ∧ ¬ (InBand (activeProfile base) 550 ∧ true = true) := by
  unfold Stows InBand; decide +kernel

theorem witness_SampleOfLoweredPole_stowed : (channel (withP (chan .stowed none 0 0)) .p).state = .stowed ∧
    (sample 1 80 false false).hook = false ∧ 80 ≤ (activeProfile base).stowedMax.toNat ∧
    (activeProfile base).stowedMax.toNat < 81 := by decide +kernel

theorem witness_SampleOfLoweredPole_retrieval : (channel (withP (chan .retrieving none 0 0)) .p).state = .retrieving ∧
    (channel (withP (chan .lowering none 0 0)) .p).state = .lowering ∧ Stows (activeProfile base) 80 true ∧
    ¬ Stows (activeProfile base) 81 true := by unfold Stows; decide +kernel

/-- P on the wire, or suspect with count 1, previous angle 500. -/
theorem witness_SampleOnWire_drops : (channel (withP (chan .onWire (some 500) 0 0)) .p).state = .onWire ∧
    (channel (withP (chan .suspect (some 500) 1 0)) .p).state = .suspect ∧
    FastRise (activeProfile base) (some 500) 540 ∧ Suspicious (activeProfile base) .live 550 true ∧
    (activeProfile base).confirm.toNat ≤ 1 + 1 := by
  simp only [← fastRise_iff, ← suspicious_iff]; decide +kernel

theorem witness_SampleOnWire_suspect : ¬ FastRise (activeProfile base) (some 511) 550 ∧
    Suspicious (activeProfile base) .frog 539 false ∧ 1 < (activeProfile base).confirm.toNat := by
  simp only [← fastRise_iff, ← suspicious_iff]; decide +kernel

theorem witness_SampleOnWire_clean : ¬ FastRise (activeProfile base) (some 510) 549 ∧
    ¬ Suspicious (activeProfile base) .dead 549 false ∧ ¬ FastRise (activeProfile base) none 549 := by
  simp only [← fastRise_iff, ← suspicious_iff]; decide +kernel

theorem witness_SampleOffWire_raising : (channel (withP (chan .raising (some 500) 0 1)) .p).state = .raising ∧
    (activeProfile base).drop.toNat ≤ 550 ∧ FastRise (activeProfile base) (some 500) 540 ∧
    Good (activeProfile base) (some 500) 539 true ∧ (activeProfile base).confirm.toNat ≤ 1 + 1 := by
  simp only [← fastRise_iff, ← goodSample_iff]; decide +kernel

theorem witness_SampleOffWire_raising_stays : ¬ ((activeProfile base).drop.toNat ≤ 539 ∨
      FastRise (activeProfile base) (some 500) 539) ∧
    ¬ (Good (activeProfile base) (some 500) 539 true ∧ (activeProfile base).confirm.toNat ≤ 0 + 1) ∧
    ¬ (Good (activeProfile base) (some 500) 149 true ∧ (activeProfile base).confirm.toNat ≤ 1 + 1) := by
  simp only [← fastRise_iff, ← goodSample_iff]; decide +kernel

/-- P dropped under REPORT_ONLY. -/
def reported (good : Nat) : State := withP { chan .dropped (some 500) 0 good with mask := .reportOnly }

theorem witness_SampleOffWire_dropped : (channel (reported 1) .p).state = .dropped ∧
    (channel (reported 1) .p).mask = .reportOnly ∧ Good (activeProfile base) (some 500) 150 true ∧
    (activeProfile base).confirm.toNat ≤ 1 + 1 ∧ 0 + 1 < (activeProfile base).confirm.toNat := by
  simp only [← goodSample_iff]; decide +kernel

theorem witness_SampleOffWire_dropped_not_good : ¬ Good (activeProfile base) (some 500) 80 true ∧
    Stows (activeProfile base) 80 true ∧ ¬ Good (activeProfile base) (some 500) 149 true ∧
    ¬ Stows (activeProfile base) 149 true := by
  simp only [← goodSample_iff]; unfold Stows; decide +kernel

theorem witness_PoleTimersAndView : (channel base .p).tSmp = some 10 ∧
    (channel (withP { chan .raising none 0 0 with tRaise := some 0 }) .p).tRaise = some 0 ∧
    (channel (withP { chan .lowering none 0 0 with tRetr := some 0 }) .p).tRetr = some 0 := by decide +kernel

/-! The Pole Line Interface. -/

theorem witness_PoleLineFrameJudged_underWay : { base with pli.underWay := true }.pli.underWay = true ∧
    base.pli.underWay = false := by decide +kernel

theorem witness_PoleLineFrameJudged_refused : parseLine [] = none ∧ parseLine (sampleBytes ++ [0, 0]) = none ∧
    ((parseLine (lineFrame 2 1 2 sampleBytes)).map LineFrame.dst = some 2) := by decide +kernel

theorem witness_PoleLineFrameJudged_fields :
    parseLine (lineFrame 2 0 1 [1]) = some ⟨0, 2, 0, 1, [1]⟩ ∧ parseLine (lineFrame 2 3 1 [1]) = some ⟨0, 2, 3, 1, [1]⟩ ∧
    parseLine (lineFrame 2 1 1 (sampleBytes.take 5)) = some ⟨0, 2, 1, 1, sampleBytes.take 5⟩ ∧
    parseLine (lineFrame 2 2 1 [1, 1]) = some ⟨0, 2, 2, 1, [1, 1]⟩ ∧
    parseLine (lineFrame 2 2 1 [1]) = some ⟨0, 2, 2, 1, [1]⟩ ∧
    parseLine (lineFrame 4 1 1 sampleBytes) = some ⟨0, 4, 1, 1, sampleBytes⟩ ∧
    parseLine (lineFrame 1 1 1 sampleBytes) = some ⟨0, 1, 1, 1, sampleBytes⟩ := by decide +kernel

theorem witness_PoleLineFrameJudged_sample : parseLine (lineFrame 3 1 1 sampleBytes) = some ⟨0, 3, 1, 1, sampleBytes⟩ ∧
    (3 : BitVec 4) = poleAddress .n ∧ (samplePayload sampleBytes).map Sample.seq = some 9 ∧
    lastSeq { base with pli.seqN := some 9 } .n = some 9 ∧ lastSeq base .n ≠ some 9 := by decide +kernel

/-- Both slots waiting, entered at 0 and at the time given, at 10 ms. -/
def bothWaiting (entryN : Millis) : State :=
  { base with
    ms := 10
    pli.slotP := waitingSlot .pullDown 0
    pli.slotN := { waitingSlot .release 0 with entry := entryN } }

theorem witness_CommandStartsInEntryOrder : (bothWaiting 0).pli.sending = none ∧ (bothWaiting 0).pli.lineBusy = false ∧
    (slot base .p).state ≠ .waiting ∧ (slot base .n).state ≠ .waiting ∧ (slot (bothWaiting 0) .p).state = .waiting ∧
    (slot (bothWaiting 0) .p).cmd = some .pullDown ∧ (slot (bothWaiting 0) .n).state = .waiting ∧
    ((bothWaiting 0).ms - (slot (bothWaiting 0) .n).entry).toNat ≤ ((bothWaiting 0).ms - (slot (bothWaiting 0) .p).entry).toNat := by
  decide +kernel

theorem witness_CommandStartsInEntryOrder_n : (slot (bothWaiting (-1)) .n).cmd = some .release ∧
    ((bothWaiting (-1)).ms - (slot (bothWaiting (-1)) .p).entry).toNat <
      ((bothWaiting (-1)).ms - (slot (bothWaiting (-1)) .n).entry).toNat := by decide +kernel

theorem witness_CommandOutcomes : (sendingP 3).pli.sending =
      some { pole := .p, cmd := .pullDown, wire := commandWire .p .pullDown, orphan := false } ∧
    (slot (sendingP 3) .p).tCmd = some 20 := by decide +kernel

/-- A frame of PLI's on the line at a RESTART. -/
theorem witness_CommandOutcomes_orphan : (restartPli (sendingP 0)).pli.sending =
    some { pole := .p, cmd := .pullDown, wire := commandWire .p .pullDown, orphan := true } := by decide +kernel

/-! The Supply Mode Controller. -/

theorem witness_EvaluationGivesMode_latched : IsEvaluation (.poleReport .p .stowed true) ∧
    { poles .stowed .stowed with smc.latch := true }.smc.latch = true ∧ openActedDrop (poles .stowed .stowed).alm = false ∧
    ¬ ((poles .stowed .lowering).pwu.chN.state = .stowed) :=
  ⟨.inl ⟨_, _, _, rfl⟩, by decide +kernel⟩

/-- P retrieving after an acted drop, N on the wire. -/
def dropped : State := { poles .retrieving .onWire with pwu.chP.lastDropActed := true }

theorem witness_EvaluationGivesMode_dewired : IsEvaluation (.sectionViewAtSmc liveView) ∧ dropped.smc.latch = false ∧
    (dropped.pwu.chP.state = .dropped ∨ dropped.pwu.chP.state = .retrieving) ∧ dropped.pwu.chP.lastDropActed = true :=
  ⟨.inr (.inl ⟨_, rfl⟩), by decide +kernel⟩

theorem witness_EvaluationGivesMode_unresolved : IsEvaluation (.poleDropAckReport .n) ∧
    (poles .unknown .onWire).smc.latch = false ∧ (poles .unknown .onWire).pwu.chP.state = .unknown ∧
    (poles .lost .onWire).pwu.chP.state = .lost ∧ (poles .unknown .onWire).pwu.chP.lastDropActed = false ∧
    (poles .unknown .onWire).pwu.chN.lastDropActed = false :=
  ⟨.inr (.inr ⟨_, rfl⟩), by decide +kernel⟩

/-- Both poles up, N dropped under REPORT_ONLY, with a line voltage. -/
def bothUp (kind : SectionKind) (mode : SupplyMode) (volts : BitVec 10) : State :=
  { base with
    pwu.chP := { chan .suspect none 1 0 with last := some ⟨1, 500, true, false, volts⟩ }
    pwu.chN := { chan .dropped none 0 0 with mask := .reportOnly, last := some ⟨1, 500, true, false, 600⟩ }
    sct.view := { liveView with kind := kind }
    smc.mode := mode }

theorem witness_EvaluationGivesMode_up (kind : SectionKind) (mode : SupplyMode) (volts : BitVec 10) :
    let s := bothUp kind mode volts
    s.smc.latch = false ∧ s.pwu.chP.lastDropActed = false ∧ s.pwu.chN.lastDropActed = false ∧
    s.pwu.chP.state = .suspect ∧ s.pwu.chN.state = .dropped ∧ s.pwu.chN.mask = .reportOnly ∧
    s.sct.view.kind = kind ∧ s.smc.mode = mode := ⟨rfl, rfl, rfl, rfl, rfl, rfl, rfl, rfl⟩

theorem witness_EvaluationGivesMode_volts : vRestore base.mge.params ≤ sampleLine (bothUp .live .noLine 450) ∧
    sampleLine (bothUp .live .noLine 449) < vRestore base.mge.params ∧
    sampleLine (bothUp .live .wire 249) < vLost base.mge.params ∧
    vLost base.mge.params ≤ sampleLine (bothUp .live .wire 250) := by decide +kernel

theorem witness_EvaluationGivesMode_noLine : SupplyLegal (bothUp .live .noLine 450) ∧
    (bothUp .live .noLine 450).smc.mode = .noLine := by unfold SupplyLegal; decide +kernel

theorem witness_EvaluationGivesMode_down : (poles .stowed .onWire).smc.latch = false ∧
    (poles .stowed .onWire).pwu.chP.state = .stowed ∧ (poles .stowed .onWire).pwu.chN.state = .onWire ∧
    (poles .stowed .onWire).pwu.chP.lastDropActed = false ∧ (poles .stowed .onWire).pwu.chN.lastDropActed = false := by
  decide +kernel

theorem witness_ModeChangePublished : IsEvaluation (.poleReport .p .onWire false) ∧
    { base with smc.noLine := some 0 }.smc.noLine = some 0 := ⟨.inl ⟨_, _, _, rfl⟩, rfl⟩

/-! The Current Budget Unit. -/

theorem witness_BudgetArithmetic : vMin defaultParams < vKnee defaultParams ∧ vRk defaultParams < vRmax defaultParams ∧
    400 ≤ vMin defaultParams ∧ vKnee defaultParams ≤ 520 ∧ vMin defaultParams < 401 ∧ 519 < vKnee defaultParams ∧
    720 ≤ vRk defaultParams ∧ vRmax defaultParams ≤ 800 ∧ vRk defaultParams < 721 ∧ 799 < vRmax defaultParams := by
  decide +kernel

theorem witness_BudgetArithmetic_motoring :
    0 < (budgetFor defaultParams .wire 450 470 290).motoring ∧ (budgetFor defaultParams .wire 450 470 291).motoring = 0 := by
  decide +kernel

/-! The Traction Admission Unit. -/

theorem witness_DemandAdmittedOrIgnored : (frame 1 [0]).payload.length ≠ 2 ∧ (frame 1 [0, 0, 0]).payload.length ≠ 2 ∧
    (frame 1 [0x07, 0xFF]).payload = [0x07, 0xFF] := by decide

/-- Each clause of R84 and R85 has a case with M 166 and G 400. -/
theorem witness_AdmissionArithmetic : let r := record .wire 291 191 166 400
    (clipDemand r 0 = 0 ∧ clipDemand r (-1) = -1) ∧ (0 < clipDemand r 300 ∧ (-1 : Int) < 0) ∧
    (clipDemand r (-300) < 0 ∧ (0 : Int) < 1) ∧ (clipDemand r 300 = 166 ∧ (165 : Int) < 166) ∧
    (clipDemand r (-500) = -400 ∧ (-400 : Int) < -399) ∧ stepDemand 40 120 166 = 160 ∧ stepDemand 40 165 166 = 166 := by
  decide +kernel

theorem witness_AdmissionArithmetic_reasons :
    limitReason .wire 300 166 160 = .step ∧ limitReason .dewired 300 0 0 = .mode ∧ limitReason .wire 300 166 166 = .budget ∧
    limitReason .wire (-250) (-100) (-100) = .regen := by decide +kernel

theorem witness_RecordReclipsDemand : ((165 : Nat) : Int) < (tau57 166).tau.admitted ∧
    (tau57 166).tau.admitted ≤ ((166 : Nat) : Int) ∧ (tau57 (-101)).tau.admitted < -((100 : Nat) : Int) ∧
    -((100 : Nat) : Int) ≤ (tau57 (-100)).tau.admitted := by decide +kernel

theorem witness_StaleDemandHeldToZero : { tau57 1 with tau.tStale := some 0 }.tau.tStale = some 0 ∧
    (tau57 0).tau.admitted = 0 ∧ (tau57 1).tau.admitted ≠ 0 := by decide +kernel

theorem witness_CutConfirmation : (frame 9 []).payload.length ≠ 2 ∧ (frame 9 [0, 15]).payload = [0, 15] ∧
    iResidual base.mge.params < (signedCurrent 0 16).natAbs ∧ (signedCurrent 0 15).natAbs ≤ iResidual base.mge.params ∧
    (signedCurrent 0xFF 0xF1).natAbs ≤ iResidual base.mge.params ∧
    { base with tau.tCut := some 0 }.tau.tCut = some 0 := by decide +kernel

/-! The Auxiliary Scheduler. -/

theorem aux79_legal : LoadsLegal aux79 := by
  refine ⟨by decide +kernel, by decide +kernel, ?_⟩; unfold LoadLegal; decide +kernel

/-- Load 4 waits, its minimum-off timer out of time. -/
theorem waits4_legal : LoadsLegal waits4 := by
  refine ⟨by decide +kernel, by decide +kernel, ?_⟩; unfold LoadLegal; decide +kernel

/-- Load 4 in FAULT. -/
def fault4 : State := setLoad 3 { LoadRec.reset with state := .fault, requested := true } aux79

theorem fault4_legal : LoadsLegal fault4 := by
  refine ⟨by decide +kernel, by decide +kernel, ?_⟩; unfold LoadLegal; decide +kernel

/-- Load 4 shed. -/
def shed4 : State := joinWaiting 3 (setLoad 3 { LoadRec.reset with state := .shed, requested := true } aux79)

theorem shed4_legal : LoadsLegal shed4 := by
  refine ⟨by decide +kernel, by decide +kernel, ?_⟩; unfold LoadLegal; decide +kernel

theorem witness_MinimumTimers : LoadsLegal waits4 ∧
    (loadRec (setLoad 1 { onLoad 2 with minOn := some 0 } aux79) 1).minOn = some 0 ∧
    (loadRec waits4 3).minOff = some 0 := ⟨waits4_legal, by decide +kernel⟩

theorem witness_AuxRequestOn_ignored : (frame 2 [1]).payload.length ≠ 2 ∧
    (frame 2 [0, 1]).payload = [0, 1] ∧ (∀ i, loadOf 0 = some i → (auxEntry aux79 i).valid = false) ∧
    (∀ i, loadOf 6 = some i → (auxEntry aux79 i).valid = false) ∧
    (∀ i, loadOf 17 = some i → (auxEntry aux79 i).valid = false) ∧ (2 : Byte) ≠ 0 ∧ (2 : Byte) ≠ 1 := by decide +kernel

theorem witness_AuxRequestOn_taken : LoadsLegal aux79 ∧ (frame 2 [4, 1]).payload = [4, 1] ∧ loadOf 4 = some 3 ∧
    (auxEntry aux79 3).valid = true ∧ (loadRec aux79 3).state = .off ∧ loadOf 1 = some 0 ∧
    (auxEntry aux79 0).valid = true ∧ (loadRec aux79 0).state ≠ .off := ⟨aux79_legal, by decide +kernel⟩

theorem witness_AuxRequestOff : LoadsLegal aux79 ∧ LoadsLegal waits4 ∧ LoadsLegal shed4 ∧ LoadsLegal fault4 ∧
    (frame 2 [5, 0]).payload = [5, 0] ∧ loadOf 5 = some 4 ∧ (auxEntry aux79 4).valid = true ∧
    (loadRec aux79 4).state = .on ∧ loadOf 4 = some 3 ∧ (auxEntry aux79 3).valid = true ∧
    (loadRec aux79 3).state = .off ∧ (loadRec waits4 3).state = .waiting ∧ (loadRec shed4 3).state = .shed ∧
    (loadRec fault4 3).state = .fault := ⟨aux79_legal, waits4_legal, shed4_legal, fault4_legal, by decide +kernel⟩

/-- Loads are shed on the record of a dead section, and none on one whose cap is not above R. -/
theorem witness_LoadsReviewed : LoadsLegal aux79 ∧
    shedPlan { aux79 with axs.record := record (.gap .dead) 150 50 0 100 } = [(2, 5), (1, 4)] ∧
    shedPlan { aux79 with axs.record := record .wire 235 135 100 400 } = [] ∧
    shedPlan { aux79 with axs.record := record .wire 234 134 99 400 } = [(2, 4)] := ⟨aux79_legal, by decide +kernel⟩

theorem witness_AuxStatusJudged_ignored : (frame 10 [1, 0, 0]).payload.length ≠ 2 ∧ (frame 10 [6, 0]).payload = [6, 0] ∧
    ∀ i, loadOf 6 = some i → (auxEntry aux79 i).valid = false := by decide +kernel

theorem witness_AuxStatusJudged_taken : LoadsLegal aux79 ∧ (frame 10 [2, 2]).payload = [2, 2] ∧ loadOf 2 = some 1 ∧
    (auxEntry aux79 1).valid = true ∧ (frame 10 [2, 2]).src ≠ (auxEntry aux79 1).node.setWidth 6 ∧
    { frame 10 [2, 2] with src := 21 }.src = (auxEntry aux79 1).node.setWidth 6 ∧ (2 : Byte).getLsbD 1 = true ∧
    (loadRec aux79 1).state = .on ∧ (loadRec aux79 3).state = .off ∧ (1 : Byte).getLsbD 1 = false :=
  ⟨aux79_legal, by decide +kernel⟩

theorem witness_AuxStatusJudged_states : LoadsLegal waits4 ∧ LoadsLegal shed4 ∧ LoadsLegal fault4 ∧
    (loadRec waits4 3).state = .waiting ∧ (loadRec shed4 3).state = .shed ∧ (loadRec fault4 3).state = .fault ∧
    (1 : Byte).getLsbD 1 = false ∧ (1 : Byte).getLsbD 0 = true ∧ (auxEntry fault4 3).valid = true :=
  ⟨waits4_legal, shed4_legal, fault4_legal, by decide +kernel⟩

/-! The Alarm List. -/

/-- A list with a raised, a cleared and an acknowledged record. -/
def listed : State :=
  { base with alm := [alarm (.poleDrop .p) .raisedUnacked (some true) 255, alarm .noLine .clearedUnacked none 1,
      alarm (.poleDrop .n) .raisedAcked (some false) 2] }

theorem witness_AlarmsRaisedAndCleared_new : ∀ x ∈ listed.alm, x.key ≠ .positionLost := by decide +kernel

theorem witness_AlarmsRaisedAndCleared_standing : listed.alm = [alarm (.poleDrop .p) .raisedUnacked (some true) 255] ++
      alarm .noLine .clearedUnacked none 1 :: [alarm (.poleDrop .n) .raisedAcked (some false) 2] ∧
    (∀ x ∈ [alarm (.poleDrop .p) .raisedUnacked (some true) 255] ++ [alarm (.poleDrop .n) .raisedAcked (some false) 2],
      x.key ≠ .noLine) := by decide +kernel

theorem witness_AlarmsRaisedAndCleared_clears : (∀ x ∈ listed.alm, x.key = .noLine → x.state = .clearedUnacked) ∧
    listed.alm = [] ++ alarm (.poleDrop .p) .raisedUnacked (some true) 255 :: listed.alm.tail ∧
    (∀ x ∈ [] ++ listed.alm.tail, x.key ≠ .poleDrop .p) ∧
    listed.alm = listed.alm.dropLast ++ alarm (.poleDrop .n) .raisedAcked (some false) 2 :: [] ∧
    (∀ x ∈ listed.alm.dropLast ++ [], x.key ≠ .poleDrop .n) ∧
    (AlarmKey.noLine ∉ waitingKeys [.alarm (.poleDrop .p) (frame 8 [])]) := by decide +kernel

theorem listed_legal : AlarmsLegal listed := by unfold AlarmsLegal; decide +kernel

theorem taken_now (code : ReqCode) (q : Request) (s : State) (hq : s.mge.queue = []) (hp : s.mge.toPlace = [])
    (hr : s.mge.awaitRestart = false) (hg : s.upi.groupA = []) : Taken code q s s := by
  simp [Taken, takeRequest, mgeReady, hq, hp, hr, hg, responseCount, earliestComplete, Config.responseEntries]

theorem witness_AlarmsAcknowledged : Taken .ackAlarm (request [255]) listed listed ∧
    Taken .ackAlarm (request [11]) listed listed ∧ Taken .ackAlarm (request [12]) listed listed ∧
    Taken .ackAlarm (request []) listed listed ∧ (request [255]).overLength = false ∧ AlarmsLegal listed ∧
    alarmKeyCode .noLine = 11 ∧ (∀ r ∈ listed.alm, alarmKeyCode r.key ≠ 12) ∧ (request []).args.length ≠ 1 :=
  ⟨taken_now _ _ _ rfl rfl rfl rfl, taken_now _ _ _ rfl rfl rfl rfl, taken_now _ _ _ rfl rfl rfl rfl,
    taken_now _ _ _ rfl rfl rfl rfl, rfl, listed_legal, by decide +kernel⟩

/-! The frame paths. -/

theorem witness_FrameAcceptance_line : parseLine (lineWire ⟨2, 3, 1, 1, sampleBytes⟩) = some ⟨2, 3, 1, 1, sampleBytes⟩ ∧
    lineFrame 3 1 1 sampleBytes = lineWire ⟨0, 3, 1, 1, sampleBytes⟩ ∧ sampleBytes.dropLast.length ≠ 6 := by decide +kernel

theorem witness_FrameAcceptance : parseFrame (frameWire (frame 4 (List.replicate 32 1))) = .ok (frame 4 (List.replicate 32 1)) ∧
    parseFrame (frameWire (frame 4 (List.replicate 33 1))) = .error .length ∧ parseFrame [] = .error .length ∧
    parseFrame (frameWire { frame 4 [1] with src := 0 }) = .error .badField ∧
    parseFrame ((frameWire (frame 4 [1])).dropLast ++ [0]) = .error .checkFailed := by decide +kernel

/-- The part with full FIFOs and the class map 0, 1, 2, 0, 0. -/
def full : State :=
  { base with
    dec.lanes := { Lanes.empty with
      fifo0 := List.replicate 4 (frame 0 [])
      fifo2 := List.replicate 8 (frame 5 []) }
    dec.classMap := #v[0, 1, 2, 0, 0] }

theorem witness_PortFrames_underWay : { base with upi.underWay := true }.upi.underWay = true ∧
    { base with dec.underWay := true }.dec.underWay = true ∧ base.upi.underWay = false ∧
    base.dec.underWay = false := by decide +kernel

theorem witness_PortUFrameClassified : partNode base = 42 ∧ full.dec.lanes.fifo0.length = 4 ∧
    full.dec.lanes.fifo2.length = 8 ∧ inverterNode base.mge.params = 10 ∧ (11 : BitVec 4).toNat = (0 : Fin 5).val + 11 ∧
    full.dec.classMap[(0 : Fin 5)] = 0 ∧ full.dec.classMap[(1 : Fin 5)] = 1 ∧ full.dec.classMap[(2 : Fin 5)] = 2 := by
  decide +kernel

/-- Group B with sixteen statuses of node 1 to 16 and eight other frames. -/
def queued : State :=
  { base with upi.groupB :=
      (List.range 16).map (fun n => .status { frame 9 [] with src := BitVec.ofNat 6 (n + 1) }) ++
      List.replicate 8 (.other (frame 6 [])) }

theorem witness_PortDFrameClassified : (16 : Nat) ≤ queued.upi.groupB.countP GroupB.isStatus ∧
    8 ≤ queued.upi.groupB.countP GroupB.isOther ∧ ((17 : Node), (9 : BitVec 4)) ∉ waitingPairs queued.upi.groupB ∧
    queued.upi.groupB = queued.upi.groupB.take 15 ++ .status { frame 9 [] with src := 16 } :: queued.upi.groupB.drop 16 ∧
    ((16 : Node), (9 : BitVec 4)) ∉ waitingPairs (queued.upi.groupB.take 15) ∧
    base.upi.groupB.countP GroupB.isStatus < 16 := by decide +kernel

theorem witness_GrantByPriority_none : cutOnWire.dec.sending ≠ none ∧ { busy 0 with dec.held := true }.dec.held = true ∧
    lanesNonEmpty base.dec.lanes = false := by decide +kernel

theorem witness_GrantByPriority_lanes : (busy 16).dec.sending = none ∧ (busy 16).dec.held = false ∧
    lane2NonEmpty (busy 16).dec.lanes = true ∧ 16 ≤ (busy 16).dec.grants ∧ ¬ 16 ≤ (busy 15).dec.grants ∧
    (busy 15).dec.lanes.cut = none ∧ (busy 15).dec.lanes.fifo0 = [] ∧ (busy 15).dec.lanes.lane1 = some (frame 1 [0, 0]) ∧
    (busy 16).dec.lanes.slots = (1, frame 3 [2, 1]) :: [] ∧
    full.dec.lanes.cut = none ∧ full.dec.lanes.fifo0 = frame 0 [] :: List.replicate 3 (frame 0 []) ∧
    { full with dec.grants := 16 }.dec.lanes.fifo2 = frame 5 [] :: List.replicate 7 (frame 5 []) ∧
    (after (.cutRequest .dewired) base).dec.lanes.cut = some (builtFrame 0 10 42 [0, 0, 1]) := by decide +kernel

theorem witness_HoldsAndEnds : cutOnWire.dec.sending = some { wire := [], lane := .safety, cut := true, orphan := false } ∧
    base.dec.held = false ∧ { base with dec.held := true }.dec.held = true ∧
    { busy 0 with dec.tHeld := some 0 }.dec.tHeld = some 0 ∧ LanesLegal (busy 0) := by
  unfold LanesLegal; decide +kernel

/-- Four responses in group A and one more to place. -/
def replying : State :=
  { base with
    upi.groupA := List.replicate 4 (.response (frame 6 []) false)
    mge.toPlace := [frame 6 [1]] }

theorem witness_UpstreamStart_none : { base with upi.sending := some ⟨[], false⟩ }.upi.sending ≠ none ∧
    base.upi.groupA = [] ∧ base.upi.groupB = [] := by decide +kernel

theorem witness_UpstreamStart_groups : replying.upi.sending = none ∧ responseCount replying = 4 ∧
    replying.upi.groupA = .response (frame 6 []) false :: List.replicate 3 (.response (frame 6 []) false) ∧
    (after (.alarmRaise .noLine false) base).upi.groupA.length = 1 ∧ (after (.alarmRaise .noLine false) base).mge.toPlace = [] ∧
    (after (.readIdent (request [])) base).mge.toPlace = [] ∧ queued.upi.groupA = [] ∧
    queued.upi.groupB = .status { frame 9 [] with src := 1 } :: queued.upi.groupB.tail ∧
    (placeNotice [8] base).upi.groupB = [.notice (builtFrame 7 1 42 [8])] := by decide +kernel

/-! The resets. -/

theorem witness_RestartTakesEffect : { aux79 with upi.sending := some ⟨[], true⟩ }.upi.sending = some ⟨[], true⟩ ∧
    { aux79 with upi.sending := some ⟨[], false⟩ }.upi.sending = some ⟨[], false⟩ := by decide +kernel

/-! The Management Engine. -/

/-- A request of node 1 in assembly with 127 bytes, and the queue full. -/
def assembling : State :=
  { base with mge.queue :=
      [⟨2, [1], false, .complete 0⟩, ⟨1, List.replicate 127 0, false, .assembling 100⟩, ⟨3, [1], false, .complete 1⟩,
        ⟨4, [1], true, .complete 2⟩]
              mge.orderCount := 3 }

theorem witness_SegmentsAssembled : assembling.mge.queue = [⟨2, [1], false, .complete 0⟩] ++
      ⟨1, List.replicate 127 0, false, .assembling 100⟩ :: assembling.mge.queue.drop 2 ∧
    assemblingOf 1 ⟨1, List.replicate 127 0, false, .assembling 100⟩ = true ∧
    (∀ x ∈ [(⟨2, [1], false, .complete 0⟩ : ReqEntry)], assemblingOf 1 x = false) ∧
    ¬ (false = true ∨ 128 < (List.replicate 127 (0 : Byte)).length + (frame 5 [1]).payload.length) ∧
    128 < (List.replicate 127 (0 : Byte)).length + (frame 5 [1, 1]).payload.length := by decide +kernel

theorem witness_SegmentsAssembled_new : (∀ x ∈ base.mge.queue, assemblingOf 1 x = false) ∧ base.mge.queue.length < 4 ∧
    (∀ x ∈ assembling.mge.queue, assemblingOf 5 x = false) ∧ 4 ≤ assembling.mge.queue.length ∧
    ∃ e ∈ assembling.mge.queue, assemblingOf 1 e = true := by decide +kernel

/-- The earliest COMPLETE entry is node 2's READ_IDENT. -/
theorem witness_RequestsTakenInOrder : let e : ReqEntry := ⟨2, [1], false, .complete 0⟩
    e ∈ assembling.mge.queue ∧ completeOrder e = some 0 ∧
    (∀ x ∈ assembling.mge.queue, x ≠ e → ∀ k ∈ completeOrder x, 0 < k) ∧
    (e.source = ({ request [] with source := 2 } : Request).source ∧ e.payload = reqCodeNum .readIdent :: []) ∧
    assembling.mge.toPlace = [] ∧ assembling.mge.awaitRestart = false ∧ responseCount assembling < 4 ∧
    ¬ (e.source = (request []).source) ∧ ¬ (replying.mge.toPlace = [] ∧ responseCount replying < 4) ∧
    (∀ x ∈ base.mge.queue, completeOrder x = none) := by decide +kernel

theorem witness_RequestsTakenInOrder_overLength :
    Taken .readIdent { request [] with overLength := true } base base ∧
    ({ request [] with overLength := true } : Request).overLength = true := ⟨taken_now _ _ _ rfl rfl rfl rfl, rfl⟩

theorem witness_ReadRequestsAnswered : (request []).overLength = false ∧ Taken .readIdent (request []) base base ∧
    Taken .readState (request [0]) base base ∧ Taken .readErrors (request [2, 0, 0]) base base ∧
    Taken .readErrors (request [0]) base base ∧ Taken .tableRead (request [3, 26, 1]) base base ∧
    (request []).args = [] ∧ (request [0]).args ≠ [] ∧ (request [2, 0, 0]).args = [2, 0, 0] ∧
    (request [0]).args.length ≠ 3 ∧ tableCode .parameter = 3 ∧ 26 + 1 ≤ tableCapacity .parameter ∧
    ¬ 20 + 8 ≤ tableCapacity .parameter ∧ (∃ c ∈ (request [5, 0, 1]).args.head?, 4 < c.toNat) ∧
    (∃ n ∈ (request [3, 0, 0]).args[2]?, n.toNat < 1 ∨ 8 < n.toNat) ∧
    (∃ n ∈ (request [3, 0, 9]).args[2]?, n.toNat < 1 ∨ 8 < n.toNat) :=
  ⟨rfl, taken_now _ _ _ rfl rfl rfl rfl, taken_now _ _ _ rfl rfl rfl rfl, taken_now _ _ _ rfl rfl rfl rfl,
    taken_now _ _ _ rfl rfl rfl rfl, taken_now _ _ _ rfl rfl rfl rfl, rfl, by decide, rfl, by decide, rfl, by decide,
    by decide, ⟨5, rfl, by decide⟩, ⟨0, rfl, by decide⟩, ⟨9, rfl, by decide⟩⟩

theorem witness_PoleRequestsAnswered_raise : let s := poles .stowed .stowed
    Taken .poleRaise (request [3]) s s ∧ (request [3]).args = [3] ∧ (∀ q ∈ [Pole.p, .n], (channel s q).state = .stowed) ∧
    s.smc.mode ≠ .dewired ∧ ¬ (s.pwu.view.kind = .insulator ∨ s.pwu.view.kind = .wireless) ∧
    ¬ (∀ q ∈ [Pole.p, .n], (channel base q).state = .stowed) ∧ insulatorView.kind = .insulator :=
  ⟨taken_now _ _ _ rfl rfl rfl rfl, by decide +kernel⟩

theorem witness_PoleRequestsAnswered_refused : let s := { poles .stowed .unknown with pwu.view := insulatorView }
    Taken .poleRaise (request [1]) s s ∧ (∀ q ∈ [Pole.p], (channel s q).state = .stowed) ∧ s.smc.mode ≠ .dewired ∧
    s.pwu.view.kind = .insulator ∧ { s with smc.mode := .dewired }.smc.mode = .dewired ∧
    (∃ q ∈ [Pole.n], ¬ ((channel s q).state = .onWire ∨ (channel s q).state = .suspect ∨ (channel s q).state = .raising) ∧
      (channel s q).state ≠ .stowed) :=
  ⟨taken_now _ _ _ rfl rfl rfl rfl, by decide +kernel⟩

theorem witness_PoleRequestsAnswered_lower : let s := poles .raising .stowed
    Taken .poleLower (request [3]) s s ∧ (channel s .p).state = .raising ∧ (channel s .n).state = .stowed ∧
    (channel base .p).state ≠ .stowed ∧ (channel base .p).state = .unknown :=
  ⟨taken_now _ _ _ rfl rfl rfl rfl, by decide +kernel⟩

theorem witness_PoleRequestsAnswered_mask : Taken .setActMask (request [1, 1]) base base ∧ actMaskOf 1 = some .reportOnly ∧
    base.mge.lock = false ∧ { base with mge.lock := true }.mge.lock = true ∧
    (channel (reported 0) .p).state = .dropped ∧
    ¬ ((channel base .p).state = .dropped ∨ (channel base .p).state = .retrieving) ∧
    (request []).args.length ≠ 1 ∧ (request [0, 0]).args.head? = some 0 ∧ (request [4, 0]).args.head? = some 4 ∧
    (request [3, 0]).args.head? = some 3 ∧ (request [1, 2]).args[1]? = some 2 :=
  ⟨taken_now _ _ _ rfl rfl rfl rfl, by decide +kernel⟩

theorem witness_EntriesReadBackAsWritten : (-1023 : Int) ≤ -1023 ∧ (1023 : Int) ≤ 1023 ∧
    sectionEntryBytes (section_ 101 7 0 1200 0 450 0) = 1 :: (sectionEntryBytes (section_ 101 7 0 1200 0 450 0)).tail := by
  decide

theorem witness_TableOpenedAndWritten_open : Taken .tableOpen (request [3]) base base ∧ (request [3]).args = [tableCode .parameter] ∧
    opened.mge.openTable ≠ none ∧ base.mge.openTable = none ∧
    ({ base with mge.lock := true }.mge.lock = true ∧ TableId.parameter ≠ .sections ∧ TableId.parameter ≠ .aux) ∧
    ¬ (base.mge.lock = true) ∧ deferred18.sct.pendingTbl ≠ none :=
  ⟨taken_now _ _ _ rfl rfl rfl rfl, by decide +kernel⟩

theorem witness_TableOpenedAndWritten_write : Taken .tableWrite (request [3, 26, 1, 0, 0]) opened opened ∧
    (request [3, 26, 1, 0, 0]).args = tableCode .parameter :: 26 :: 1 :: [0, 0] ∧ opened.mge.openTable =
      some { table := .parameter, owner := 1, tOpen := 5000 } ∧
    base.mge.openTable.map OpenTable.table ≠ some .parameter ∧ (1 : Node) ≠ (5 : Node) ∧
    tableCapacity .parameter < (27 : Byte).toNat + (1 : Byte).toNat ∧
    ¬ (1 ≤ (0 : Byte).toNat) ∧ ¬ ((9 : Byte).toNat ≤ 8) ∧ (request [3, 26]).args.length < 3 ∧
    opened.mge.shadow = some defaultParams ∧ [0, 0] = [(0 : Half)].flatMap be16 ∧ (1 : Byte).toNat = [(0 : Half)].length :=
  ⟨taken_now _ _ _ rfl rfl rfl rfl, by decide +kernel⟩

/-- An entry that a write refuses and one that it stores, for each table that refuses any (R12, R22, R127). -/
theorem witness_TableOpenedAndWritten_refused : sectionWriteRefused (section_ 1 7 0 1 0 1024 0) = true ∧
    sectionWriteRefused (section_ 4095 7 0 1 0 1023 0) = false ∧ auxWriteRefused ⟨true, 20, 25, 8, 0, 0, true⟩ = true ∧
    auxWriteRefused ⟨true, 20, 25, 7, 0, 0, true⟩ = false ∧ profileWriteRefused ⟨901, 40, 2, 80, 150⟩ = true ∧
    profileWriteRefused ⟨900, 40, 2, 80, 150⟩ = false ∧ base.sct.shadow = some State.reset.sct.active ∧
    base.axs.shadow = some State.reset.axs.active ∧ base.pwu.shadow = some defaultProfiles ∧
    base.dec.shadow = some defaultClassMap := by decide +kernel

/-- The part with a table open by node 1 and its shadow loaded. -/
def loaded (table : TableId) : State :=
  { aux79 with
    mge.openTable := some { table := table, owner := 1, tOpen := 5000 }
    sct.shadow := some table18
    axs.shadow := some auxTable
    mge.shadow := some (defaultParams.set 3 300) }

theorem loaded_legal (table : TableId) : LoadsLegal (loaded table) := by
  refine ⟨by cases table <;> decide +kernel, by cases table <;> decide +kernel, ?_⟩
  unfold LoadLegal; cases table <;> decide +kernel

theorem witness_TableCommitted : Taken .tableCommit (request [0]) (loaded .sections) (loaded .sections) ∧
    Taken .tableCommit (request [1]) (loaded .aux) (loaded .aux) ∧ LoadsLegal (loaded .aux) ∧
    (request [0]).args = [tableCode .sections] ∧ (request [1]).args = [tableCode .aux] ∧
    firstBad .sections (loaded .sections) = none ∧ firstBad .aux (loaded .aux) = none ∧
    firstBad .profile (loaded .profile) = none ∧ firstBad .parameter (loaded .parameter) = none ∧
    firstBad .classMap (loaded .classMap) = none ∧
    firstBad .parameter { opened with mge.shadow := some (defaultParams.set 3 450) } = some 3 :=
  ⟨taken_now _ _ _ rfl rfl rfl rfl, taken_now _ _ _ rfl rfl rfl rfl, loaded_legal _, by decide +kernel⟩

/-- The commit takes load 2 out of ON. -/
theorem witness_TableCommitted_aux : Taken .tableCommit (request [1]) retiring retiring ∧ LoadsLegal retiring ∧
    retiring.axs.shadow = some (auxTable.set 1 { auxTable[1] with valid := false }) ∧
    firstBad .aux retiring = none ∧ (loadRec retiring 1).state = .on :=
  ⟨taken_now _ _ _ rfl rfl rfl rfl, ⟨by decide +kernel, by decide +kernel, by unfold LoadLegal; decide +kernel⟩,
    by decide +kernel⟩

theorem witness_TableCommitted_section : (loaded .sections).sct.shadow = some table18 ∧
    isGap { loaded .sections with sct.view := insulatorView }.sct.view.kind = true ∧
    isGap (loaded .sections).sct.view.kind = false ∧ (loaded .sections).sct.position = none ∧
    { loaded .sections with sct.position := some (7, 1216) }.sct.position = some (7, 1216) ∧
    base.mge.openTable.map OpenTable.table ≠ some .sections := by decide +kernel

theorem witness_TableAbandonedAndLock : opened.mge.openTable = some { table := .parameter, owner := 1, tOpen := 5000 } ∧
    Taken .tableAbandon (request [3]) opened opened ∧ (request [3]).args = [tableCode .parameter] ∧
    base.mge.openTable.map OpenTable.table ≠ some .parameter ∧ ({ request [3] with source := 5 } : Request).source ≠ 1 ∧
    Taken .lockSettings (request []) (reported 0) (reported 0) ∧ (request []).args = [] ∧ (request [0]).args ≠ [] ∧
    (reported 0).mge.lock = false ∧ { base with mge.lock := true }.mge.lock = true ∧
    ((channel (reported 0) .p).state = .dropped ∧ (channel (reported 0) .p).mask = .reportOnly) ∧
    ¬ ((channel (reported 0) .n).state = .dropped) :=
  ⟨rfl, taken_now _ _ _ rfl rfl rfl rfl, rfl, by decide +kernel, by decide, taken_now _ _ _ rfl rfl rfl rfl, rfl,
    by decide, by decide +kernel⟩

theorem witness_RestartAndUnknownRequests : Taken .restart (request []) base base ∧ Taken .restart (request [0]) base base ∧
    takeRequest (request []).args (request []) base = some base ∧
    takeRequest (request [17]).args (request [17]) base = some base ∧ (request [0]).args ≠ [] ∧
    (request [17]).args = 17 :: [] ∧ 16 < (17 : Byte).toNat ∧ (request [0]).args = 0 :: [] :=
  ⟨taken_now _ _ _ rfl rfl rfl rfl, taken_now _ _ _ rfl rfl rfl rfl, by decide +kernel⟩

/-! Invariants: the reset state is legal in every block (`Obligations.ResetIsLegal` states it), and steps from it. -/

theorem witness_invariants_step : ∃ t, step base = .next t := ⟨_, rfl⟩

theorem witness_AlarmsStayLegal : AlarmsLegal listed := listed_legal

theorem witness_SupplyAndBudgetStayLegal : SupplyLegal base ∧ BudgetLegal base := by
  unfold SupplyLegal BudgetLegal; decide +kernel

theorem witness_PolesStayLegal : PolesLegal base := by
  refine ⟨by unfold ChannelLegal; decide +kernel, by unfold ChannelLegal; decide +kernel, fun pole h => ?_, by decide +kernel⟩
  cases pole <;> exact absurd rfl h

theorem witness_TractionStaysLegal : TractionLegal (after (.cutRequest .dewired) (tau57 166)) := by
  unfold TractionLegal; decide +kernel

theorem witness_LoadsStayLegal : LoadsLegal waits4 := waits4_legal

theorem assembling_one (source : Node) : (assembling.mge.queue.filter (assemblingOf source)).length ≤ 1 := by
  have h : ∀ n : Fin 64, (assembling.mge.queue.filter (assemblingOf (BitVec.ofFin n))).length ≤ 1 := by decide +kernel
  exact h source.toFin

theorem witness_QueuesStayLegal : LanesLegal (busy 16) ∧ QueuesLegal assembling :=
  ⟨by unfold LanesLegal; decide +kernel, by decide +kernel, by decide +kernel, by decide +kernel, by decide +kernel,
    by decide +kernel, by decide +kernel, by decide +kernel, by decide +kernel, assembling_one⟩

theorem table18_valid : firstBadSection table18 = none := by decide +kernel

theorem witness_TablesStayValid : TablesLegal deferred18 :=
  ⟨by decide +kernel, fun _ h => Option.some.inj h ▸ table18_valid, by decide +kernel, by decide +kernel, by decide +kernel,
    by decide +kernel, fun _ h => absurd (show (none : Option OpenTable) = some _ from h) (by simp)⟩

end Sys2Proof.Tests
end

section
/-! The tables that `TablesLegal` speaks of, as one view of the state: what each operation leaves of it. -/

namespace Sys2Proof.Machine

/-- What `TablesLegal` reads of a state: the strap pins, the active and the pending tables, and which table is open. -/
structure TableView where
  strap    : BitVec 3
  sections : SectionTable
  waiting  : Option SectionTable
  aux      : AuxTable
  profiles : ProfileTable
  params   : ParamTable
  classMap : ClassMap
  opened   : Option TableId

/-- The view that a state gives. -/
def tableView (s : State) : TableView :=
  { strap := s.strap, sections := s.sct.active, waiting := s.sct.pendingTbl, aux := s.axs.active,
    profiles := s.pwu.active, params := s.mge.params, classMap := s.dec.classMap,
    opened := s.mge.openTable.map OpenTable.table }

/-! ### The shared operations keep the view -/

@[simp] theorem tableView_hand (e : List Instr) (s : State) : tableView (hand e s) = tableView s := rfl
@[simp] theorem tableView_taken (c : Instr) (s : State) : tableView (taken c s) = tableView s := rfl
@[simp] theorem tableView_errorU (c : ErrCode) (s : State) : tableView (errorU c s) = tableView s := rfl
@[simp] theorem tableView_errorD (c : ErrCode) (s : State) : tableView (errorD c s) = tableView s := rfl
@[simp] theorem tableView_errorS (c : ErrCode) (s : State) : tableView (errorS c s) = tableView s := rfl
@[simp] theorem tableView_changeLanes (f : Lanes → Lanes) (s : State) : tableView (changeLanes f s) = tableView s := rfl
@[simp] theorem tableView_placeLane1 (f : Frame) (s : State) : tableView (placeLane1 f s) = tableView s := rfl
@[simp] theorem tableView_placeCommand (i : LoadIx) (f : Frame) (s : State) :
    tableView (placeCommand i f s) = tableView s := rfl
@[simp] theorem tableView_placeSegments (s : State) : tableView (placeSegments s) = tableView s := rfl
@[simp] theorem tableView_respond (dst : Node) (echo : Byte) (r : Reply) (s : State) :
    tableView (respond dst echo r s) = tableView s := rfl

@[simp] theorem tableView_setChannel (pole : Pole) (c : Channel) (s : State) :
    tableView (setChannel pole c s) = tableView s := by cases pole <;> rfl
@[simp] theorem tableView_setSlot (pole : Pole) (x : Slot) (s : State) :
    tableView (setSlot pole x s) = tableView s := by cases pole <;> rfl
@[simp] theorem tableView_setLastSeq (pole : Pole) (x : Byte) (s : State) :
    tableView (setLastSeq pole x s) = tableView s := by cases pole <;> rfl
@[simp] theorem tableView_setVolts (pole : Pole) (v : BitVec 10) (s : State) :
    tableView (setVolts pole v s) = tableView s := by cases pole <;> rfl

@[simp] theorem tableView_requestCommand (pole : Pole) (c : RetrieverCmd) (s : State) :
    tableView (requestCommand pole c s) = tableView s := by simp [requestCommand]

@[simp] theorem tableView_placeNotice (l : List Byte) (s : State) : tableView (placeNotice l s) = tableView s := by
  rcases placeNotice_spec l s with ⟨-, e⟩ | ⟨-, e⟩ <;> rw [e] <;> rfl

@[simp] theorem tableView_forwardLane0 (f : Frame) (s : State) : tableView (forwardLane0 f s) = tableView s := by
  rcases forwardLane0_spec f s with ⟨-, e⟩ | ⟨-, e⟩ <;> simp [e]

@[simp] theorem tableView_forwardLane2 (f : Frame) (s : State) : tableView (forwardLane2 f s) = tableView s := by
  rcases forwardLane2_spec f s with ⟨-, e⟩ | ⟨-, e⟩ <;> simp [e]

@[simp] theorem tableView_passUpStatus (f : Frame) (s : State) : tableView (passUpStatus f s) = tableView s := by
  rcases passUpStatus_spec f s with ⟨_, -, e⟩ | ⟨-, -, e⟩ | ⟨-, -, e⟩ <;> rw [e] <;> rfl

@[simp] theorem tableView_passUpOther (f : Frame) (s : State) : tableView (passUpOther f s) = tableView s := by
  rcases passUpOther_spec f s with ⟨-, e⟩ | ⟨-, e⟩ <;> rw [e] <;> rfl

/-- A walk whose every step keeps the view keeps it. -/
theorem tableView_foldl {α : Type} (f : State → α → State) (h : ∀ s x, tableView (f s x) = tableView s)
    (l : List α) (s : State) : tableView (l.foldl f s) = tableView s := by
  induction l generalizing s with
  | nil => rfl
  | cons x rest ih => rw [List.foldl_cons, ih, h]

/-! ### Port S and the command slots -/

@[simp] theorem tableView_judgeLineFrame (f : LineFrame) (s : State) :
    tableView (judgeLineFrame f s) = tableView s := by
  unfold judgeLineFrame acceptSample
  (repeat' split) <;> simp

theorem tableView_receiveLine (bytes : List Byte) (s : State) : tableView (receiveLine bytes s) = tableView s := by
  unfold receiveLine
  split
  · rfl
  · split
    · rw [tableView_judgeLineFrame]; rfl
    · rfl

theorem tableView_startCommand (pole : Pole) (s : State) : tableView (startCommand pole s) = tableView s := by
  unfold startCommand
  cases (slot s pole).cmd <;> cases pole <;> rfl

theorem tableView_endCommand (pole : Pole) (acknowledged : Bool) (s : State) :
    tableView (endCommand pole acknowledged s) = tableView s := by
  cases acknowledged <;> simp [endCommand]

/-! ### Supply, budget and traction -/

theorem tableView_publishMode (m : SupplyMode) (s : State) : tableView (publishMode m s) = tableView s := by
  rcases publishMode_spec m s with ⟨-, e⟩ | ⟨-, e⟩
  · rw [e]
  · rw [e, tableView_placeNotice]; rfl

theorem tableView_evaluate (s : State) : tableView (evaluate s) = tableView s := by
  unfold evaluate
  rw [judgeExposure_spec]
  exact tableView_publishMode _ _

theorem tableView_recompute (s : State) : tableView (recompute s) = tableView s := by rw [recompute_spec]; rfl

theorem tableView_admitDemand (f : Frame) (d : Int) (s : State) : tableView (admitDemand f d s) = tableView s := rfl

theorem tableView_takeRecord (r : BudgetRecord) (s : State) : tableView (takeRecord r s) = tableView s := by
  unfold takeRecord
  simp only [apply_ite tableView]
  (repeat' split) <;> rfl

theorem tableView_holdStale (s : State) : tableView (holdStale s) = tableView s := by
  unfold holdStale
  simp only [apply_ite tableView, tableView_placeNotice]
  split <;> rfl

theorem tableView_judgeStatus (i : Int) (s : State) : tableView (judgeStatus i s) = tableView s := by
  unfold judgeStatus
  dsimp only
  simp only [apply_ite tableView, tableView_hand]
  (repeat' split) <;> rfl

/-! ### Port D -/

theorem tableView_classifyD (f : Frame) (s : State) : tableView (classifyD f s) = tableView s := by
  simp [classifyD, apply_ite tableView]

theorem tableView_receiveD (bytes : List Byte) (s : State) : tableView (receiveD bytes s) = tableView s := by
  unfold receiveD
  split
  · simp
  · exact tableView_classifyD _ _

theorem tableView_grant (s : State) : tableView (grant s) = tableView s := by
  unfold grant startPortD
  (repeat' split) <;> rfl

theorem tableView_judgeLinkHeld (s : State) : tableView (judgeLinkHeld s) = tableView s := by
  unfold judgeLinkHeld
  split <;> rfl

theorem tableView_endPortD (x : PortDTx) (s : State) : tableView (endPortD x s) = tableView s := by
  unfold endPortD
  simp only [tableView_grant, apply_ite tableView, tableView_judgeLinkHeld]
  (repeat' split) <;> rfl

/-! ### Poles -/

@[simp] theorem tableView_enterDropped (pole : Pole) (s : State) : tableView (enterDropped pole s) = tableView s := by
  simp only [enterDropped, startRetrieval, apply_ite tableView, tableView_setChannel, tableView_requestCommand,
    tableView_hand, ite_self]

@[simp] theorem tableView_enterOnWire (pole : Pole) (s : State) : tableView (enterOnWire pole s) = tableView s := by
  simp [enterOnWire]

theorem tableView_judgeSample (pole : Pole) (angle : Nat) (contact hook : Bool) (s : State) :
    tableView (judgeSample pole angle contact hook s) = tableView s := by
  unfold judgeSample
  split <;> simp [resolveChannel, stowedOnSample, runningOnSample, raisingOnSample, droppedOnSample, retrievalOnSample,
    suspectTo, apply_ite tableView]

theorem tableView_takeSample (pole : Pole) (x : Sample) (s : State) :
    tableView (takeSample pole x s) = tableView s := by
  simp [takeSample, finishSample, storeSample, tableView_judgeSample, apply_ite tableView]

@[simp] theorem tableView_startLowering (pole : Pole) (s : State) :
    tableView (startLowering pole s) = tableView s := by
  simp [startLowering]

theorem tableView_raisePoles (poles : List Pole) (s : State) : tableView (raisePoles poles s).1 = tableView s := by
  unfold raisePoles
  split
  · exact tableView_foldl _ (fun s q => by simp [startRaise]) _ _
  · rfl

theorem tableView_lowerPoles (poles : List Pole) (s : State) : tableView (lowerPoles poles s).1 = tableView s := by
  unfold lowerPoles
  split
  · rfl
  · exact tableView_foldl _ (fun s q => by simp [lowerPole]) _ _

theorem tableView_setMask (pole : Pole) (mask : ActMask) (s : State) :
    tableView (setMask pole mask s).1 = tableView s := by
  unfold setMask
  (repeat' split) <;> simp

theorem tableView_lockMasks (s : State) : tableView (lockMasks s) = tableView s := by
  simp [lockMasks, lockChannel, startRetrieval, apply_ite tableView]

/-! ### Auxiliary loads -/

@[simp] theorem tableView_setLoad (i : LoadIx) (r : LoadRec) (s : State) :
    tableView (setLoad i r s) = tableView s := rfl
@[simp] theorem tableView_joinWaiting (i : LoadIx) (s : State) : tableView (joinWaiting i s) = tableView s := rfl
@[simp] theorem tableView_leaveWaiting (i : LoadIx) (s : State) : tableView (leaveWaiting i s) = tableView s := rfl
@[simp] theorem tableView_leaveOn (i : LoadIx) (e : AuxEntry) (s : State) :
    tableView (leaveOn i e s) = tableView s := rfl
@[simp] theorem tableView_commandLoad (i : LoadIx) (on : Bool) (s : State) :
    tableView (commandLoad i on s) = tableView s := rfl

@[simp] theorem tableView_enterState (i : LoadIx) (new : LoadState) (cause : AuxCause) (s : State) :
    tableView (enterState i new cause s) = tableView s := by simp [enterState, auxNotice]

@[simp] theorem tableView_handReservation (before : Nat) (s : State) :
    tableView (handReservation before s) = tableView s := by
  unfold handReservation; split <;> rfl

theorem tableView_tryAdmit (s : State) (i : LoadIx) : tableView (tryAdmit s i) = tableView s := by
  unfold tryAdmit
  split
  · rw [admitLoad, tableView_enterState]; rfl
  · rfl

@[simp] theorem tableView_admissionPass (s : State) : tableView (admissionPass s) = tableView s :=
  tableView_foldl _ tableView_tryAdmit _ _

@[simp] theorem tableView_shedLoad (i : LoadIx) (cause : AuxCause) (s : State) :
    tableView (shedLoad i cause s) = tableView s := by simp [shedLoad]

@[simp] theorem tableView_excludeAndShed (s : State) : tableView (excludeAndShed s) = tableView s := by
  have hx : ∀ s, tableView (forcedExclusion s) = tableView s := fun s =>
    tableView_foldl _ (fun s i => by unfold excludeLoad; split <;> simp) _ _
  have hb : ∀ s, tableView (budgetShed s) = tableView s := fun s => by
    unfold budgetShed
    rw [tableView_foldl _ (fun s i => by unfold sweepSecond; split <;> simp),
      tableView_foldl _ (fun s i => by unfold sweepFirst; split <;> simp)]
  simp only [excludeAndShed, apply_ite tableView, hx, hb, ite_self]

theorem tableView_requestOn (i : LoadIx) (s : State) : tableView (requestOn i s) = tableView s := by
  unfold requestOn
  dsimp only
  split <;> simp

theorem tableView_requestOff (i : LoadIx) (s : State) : tableView (requestOff i s) = tableView s := by
  unfold requestOff
  dsimp only
  split <;> simp

theorem tableView_takeRecordAxs (r : BudgetRecord) (s : State) : tableView (takeRecordAxs r s) = tableView s := by
  simp only [takeRecordAxs, tableView_handReservation, apply_ite tableView, tableView_admissionPass,
    tableView_excludeAndShed, ite_self]
  rfl

theorem tableView_takeStatus (i : LoadIx) (status : Byte) (s : State) :
    tableView (takeStatus i status s) = tableView s := by
  have hj : ∀ b s, tableView (judgeFault i b s) = tableView s := fun b s => by unfold judgeFault; split <;> simp
  simp [takeStatus, resendOff, apply_ite tableView, hj]

theorem tableView_retireLoad (old : AuxTable) (s : State) (i : LoadIx) :
    tableView (retireLoad old s i) = tableView s := by
  unfold retireLoad
  dsimp only
  (repeat' split) <;> simp

theorem tableView_commandAllOff (s : State) : tableView (commandAllOff s) = tableView s :=
  tableView_foldl _ (fun s i => by split <;> rfl) _ _

/-! ### Alarms -/

@[simp] theorem tableView_placeAlarmFrame (e : AlarmEvent) (r : AlarmRec) (s : State) :
    tableView (placeAlarmFrame e r s) = tableView s := rfl

@[simp] theorem tableView_reportDropAck (key : AlarmKey) (s : State) :
    tableView (reportDropAck key s) = tableView s := by cases key <;> rfl

theorem tableView_removeAlarm (r : AlarmRec) (s : State) : tableView (removeAlarm r s) = tableView s := by
  simp only [removeAlarm, tableView_reportDropAck]; rfl

theorem tableView_raiseAlarm (key : AlarmKey) (acted : Bool) (s : State) :
    tableView (raiseAlarm key acted s) = tableView s := by
  unfold raiseAlarm; split <;> rfl

theorem tableView_clearAlarm (key : AlarmKey) (s : State) : tableView (clearAlarm key s) = tableView s := by
  unfold clearAlarm
  split
  · rfl
  · split
    · rfl
    · exact tableView_removeAlarm _ _
    · rfl

theorem tableView_ackRecord (r : AlarmRec) (s : State) : tableView (ackRecord r s) = tableView s := by
  unfold ackRecord
  split
  · simp only [tableView_reportDropAck]; rfl
  · exact tableView_removeAlarm _ _
  · rfl

/-! ### Port U and the request queue -/

theorem tableView_classifyU (f : Frame) (s : State) : tableView (classifyU f s) = tableView s := by
  have hg : tableView (forwardGeneral f s) = tableView s := by
    unfold forwardGeneral
    split <;> simp [apply_ite tableView]
  simp [classifyU, apply_ite tableView, hg]

theorem tableView_receiveU (bytes : List Byte) (s : State) : tableView (receiveU bytes s) = tableView s := by
  unfold receiveU
  split
  · simp
  · exact tableView_classifyU _ _

theorem tableView_startUpstream (s : State) : tableView (startUpstream s) = tableView s := by
  unfold startUpstream sendGroupA sendGroupB
  dsimp only
  (repeat' split) <;> rfl

theorem tableView_takeSegment (f : Frame) (s : State) : tableView (takeSegment f s) = tableView s := by
  unfold takeSegment
  dsimp only
  (repeat' split) <;> rfl

theorem tableView_takeRequest (payload : List Byte) (q : Request) (s t : State)
    (h : takeRequest payload q s = some t) : tableView t = tableView s := by
  obtain ⟨-, -, -, rfl | ⟨_, -, -, -, -, rfl⟩⟩ := takeRequest_spec payload q s t h <;> rfl

/-- A request's view is that of its body, or the one it found. -/
theorem tableView_runRequest (code : ReqCode) (q : Request) (body : State → State × Reply) (s : State) :
    tableView (runRequest code q body s) = tableView s ∨
      ∃ s1, tableView s1 = tableView s ∧ tableView (runRequest code q body s) = tableView (body s1).1 := by
  rcases runRequest_spec code q body s with ⟨-, e⟩ | ⟨s1, h1, ⟨-, e⟩ | ⟨-, e⟩⟩
  · exact .inl (by rw [e])
  · exact .inl (by rw [e, tableView_respond, tableView_takeRequest _ _ _ _ h1])
  · exact .inr ⟨s1, tableView_takeRequest _ _ _ _ h1, by rw [e, tableView_respond]⟩

end Sys2Proof.Machine
end

section
namespace Sys2Proof.Machine

/-- `TablesLegal`, said of the view. -/
def TableView.Legal (v : TableView) : Prop :=
  firstBadSection v.sections = none ∧ (∀ t, v.waiting = some t → firstBadSection t = none) ∧
  firstFailing (auxEntryFails (40 + v.strap.setWidth 6)) v.aux.toList = none ∧
  firstFailing profileEntryFails v.profiles.toList = none ∧
  firstBadParam (40 + v.strap.setWidth 6) v.params = none ∧
  firstFailing classEntryFails v.classMap.toList = none ∧
  (v.opened = some .sections → v.waiting = none)

theorem tablesLegal_iff (s : State) : TablesLegal s ↔ (tableView s).Legal := by
  have ho : (∀ o, s.mge.openTable = some o → o.table = .sections → s.sct.pendingTbl = none) ↔
      ((tableView s).opened = some .sections → (tableView s).waiting = none) := by
    cases h : s.mge.openTable <;> simp [tableView, h]
  unfold TablesLegal
  rw [ho]
  rfl

/-- What leaves the view leaves the tables legal. -/
theorem tablesLegal_of_view {s t : State} (hv : tableView t = tableView s) (h : TablesLegal s) : TablesLegal t := by
  rw [tablesLegal_iff] at h ⊢
  rwa [hv]

/-! ### The section table: deferral, position and parameter commit -/

theorem tableView_publishView (v : View) (s : State) : tableView (publishView v s) = tableView s := by
  rcases publishView_spec v s with ⟨-, e⟩ | ⟨-, e⟩
  · rw [e]
  · rw [e, tableView_placeNotice]; rfl

theorem tableView_lookupAndPublish (s : State) : tableView (lookupAndPublish s) = tableView s :=
  tableView_publishView _ _

theorem endDeferral_keeps_tables (s : State) (h : TablesLegal s) : TablesLegal (endDeferral s) := by
  unfold endDeferral
  split
  · exact h
  · rename_i t ht
    split
    · exact h
    · refine tablesLegal_of_view (tableView_placeNotice _ _) ?_
      obtain ⟨-, hw, haux, hprof, hpar, hcls, -⟩ := h
      exact ⟨hw t ht, fun _ h => (nomatch h), haux, hprof, hpar, hcls, fun _ _ _ => rfl⟩

theorem acceptPosition_keeps_tables (route : Byte) (c : Half) (s : State) (h : TablesLegal s) :
    TablesLegal (acceptPosition route c s) := by
  refine tablesLegal_of_view (tableView_lookupAndPublish _) (endDeferral_keeps_tables _ (tablesLegal_of_view ?_ h))
  split <;> rfl

theorem losePosition_keeps_tables (s : State) (h : TablesLegal s) : TablesLegal (losePosition s) :=
  tablesLegal_of_view (tableView_lookupAndPublish _) (endDeferral_keeps_tables _ h)

/-! ### Opening, writing, committing and abandoning -/

theorem closeTable_keeps_tables (s : State) (h : TablesLegal s) : TablesLegal (closeTable s) := by
  obtain ⟨hsec, hw, haux, hprof, hpar, hcls, -⟩ := h
  exact ⟨hsec, hw, haux, hprof, hpar, hcls, fun _ h => nomatch h⟩

theorem tableView_restartOpenTimer (s : State) : tableView (restartOpenTimer s) = tableView s := by
  cases h : s.mge.openTable <;> simp [tableView, restartOpenTimer, h]

theorem tableView_copyToShadow (t : TableId) (s : State) : tableView (copyToShadow t s) = tableView s := by
  cases t <;> rfl

theorem tableView_discardShadow (t : TableId) (s : State) : tableView (discardShadow t s) = tableView s := by
  cases t <;> rfl

theorem tableView_storeWrite (t : TableId) (start count : Nat) (data : List Byte) (s s1 : State)
    (h : storeWrite t start count data s = some s1) : tableView s1 = tableView s := by
  cases t <;> obtain ⟨_, -, rfl⟩ := Option.map_eq_some_iff.mp h <;> rfl

/-- R15, R169: the section table is not opened while one is pending. -/
theorem openTableFor_keeps_tables (t : TableId) (source : Node) (s : State) (h : TablesLegal s) :
    TablesLegal (openTableFor t source s).1 := by
  unfold openTableFor
  split
  · exact h
  · split
    · exact h
    · split
      · exact h
      · rename_i hp
        obtain ⟨hsec, hw, haux, hprof, hpar, hcls, -⟩ := tablesLegal_of_view (tableView_copyToShadow t s) h
        refine ⟨hsec, hw, haux, hprof, hpar, hcls, fun o ho ht => ?_⟩
        obtain rfl : _ = o := Option.some.inj ho
        obtain rfl : t = .sections := ht
        simpa [copyToShadow] using hp

theorem tableView_writeBody (source : Node) (args : List Byte) (s : State) :
    tableView (writeBody source args s).1 = tableView s := by
  unfold writeBody
  (repeat' split) <;> try rfl
  rename_i hs
  exact (tableView_restartOpenTimer _).trans (tableView_storeWrite _ _ _ _ _ _ hs)

theorem swapSection_keeps_tables (t : SectionTable) (s : State) (h : TablesLegal s) (ht : firstBadSection t = none)
    (ho : s.mge.openTable = none) : TablesLegal (swapSection t s).1 := by
  obtain ⟨hsec, hw, haux, hprof, hpar, hcls, hopen⟩ := h
  unfold swapSection
  split
  · exact ⟨hsec, fun x hx => Option.some.inj hx ▸ ht, haux, hprof, hpar, hcls, fun o h => by simp [ho] at h⟩
  · have hs : TablesLegal { s with sct.active := t } := ⟨ht, hw, haux, hprof, hpar, hcls, hopen⟩
    dsimp only
    split
    · exact hs
    · exact tablesLegal_of_view (tableView_lookupAndPublish _) hs

@[simp] theorem tableView_setReservation (r : Nat) (s : State) :
    tableView { s with axs.reservation := r } = tableView s := rfl

theorem tableView_swapAux (t : AuxTable) (s : State) : tableView (swapAux t s) = { tableView s with aux := t } := by
  simp only [swapAux, tableView_handReservation, tableView_admissionPass, tableView_excludeAndShed,
    tableView_setReservation, tableView_foldl _ (tableView_retireLoad _)]
  rfl

theorem swapAux_keeps_tables (t : AuxTable) (s : State) (h : TablesLegal s)
    (ht : firstFailing (auxEntryFails (partNode s)) t.toList = none) : TablesLegal (swapAux t s) := by
  rw [tablesLegal_iff] at h ⊢
  rw [tableView_swapAux]
  obtain ⟨hsec, hw, -, hprof, hpar, hcls, hopen⟩ := h
  exact ⟨hsec, hw, ht, hprof, hpar, hcls, hopen⟩

/-- A table that the owner's walk passes, or a discarded shadow, for which the active table stands. -/
theorem getD_of_bind_none {α : Type} {shadow : Option α} {walk : α → Option Nat} {active : α}
    (hb : shadow.bind walk = none) (ha : walk active = none) : walk (shadow.getD active) = none := by
  cases shadow with
  | none => exact ha
  | some x => exact hb

/-- R172: what becomes active, or pending, has passed its owner's walk. -/
theorem swapTable_keeps_tables (t : TableId) (s : State) (h : TablesLegal s) (hb : firstBad t s = none) :
    TablesLegal (swapTable t (closeTable s)).1 := by
  have hc := closeTable_keeps_tables s h
  obtain ⟨hsec, hw, haux, hprof, hpar, hcls, hopen⟩ := hc
  cases t with
  | sections => exact swapSection_keeps_tables _ _ (closeTable_keeps_tables s h) (getD_of_bind_none hb hsec) rfl
  | aux =>
    have ht : firstFailing (auxEntryFails (partNode s)) (s.axs.shadow.getD s.axs.active).toList = none :=
      getD_of_bind_none (walk := fun x : AuxTable => firstFailing (auxEntryFails (partNode s)) x.toList) hb haux
    simp only [swapTable]
    exact swapAux_keeps_tables _ _ (closeTable_keeps_tables s h) ht
  | profile =>
    exact ⟨hsec, hw, haux, getD_of_bind_none (walk := fun x : ProfileTable => firstFailing profileEntryFails x.toList)
      hb hprof, hpar, hcls, hopen⟩
  | parameter => exact ⟨hsec, hw, haux, hprof, getD_of_bind_none hb hpar, hcls, hopen⟩
  | classMap =>
    exact ⟨hsec, hw, haux, hprof, hpar, getD_of_bind_none
      (walk := fun x : ClassMap => firstFailing classEntryFails x.toList) hb hcls, hopen⟩

theorem commitTable_keeps_tables (source : Node) (t : TableId) (s : State) (h : TablesLegal s) :
    TablesLegal (commitTable source t s).1 := by
  unfold commitTable
  split
  · split
    · exact tablesLegal_of_view (tableView_restartOpenTimer s) h
    · rename_i hb
      exact swapTable_keeps_tables t s h hb
  · exact h

theorem abandonTable_keeps_tables (cause : AbandonCause) (s : State) (h : TablesLegal s) :
    TablesLegal (abandonTable cause s) := by
  unfold abandonTable
  split
  · exact h
  · exact tablesLegal_of_view ((tableView_placeNotice _ _).trans (tableView_discardShadow _ _))
      (closeTable_keeps_tables s h)

theorem abandonBody_keeps_tables (source : Node) (t : TableId) (s : State) (h : TablesLegal s) :
    TablesLegal (abandonBody source t s).1 := by
  unfold abandonBody
  split
  · exact abandonTable_keeps_tables _ s h
  · exact h

theorem lockBody_keeps_tables (args : List Byte) (s : State) (h : TablesLegal s) :
    TablesLegal (lockBody args s).1 := by
  have ha : TablesLegal (abandonForLock s) := by
    unfold abandonForLock
    split
    · exact h
    · split
      · exact abandonTable_keeps_tables _ s h
      · exact h
  have hl : TablesLegal (setLock s) := tablesLegal_of_view ((tableView_lockMasks _).trans rfl) ha
  unfold lockBody
  split
  · dsimp only; split
    · exact h
    · exact hl
  · exact h

theorem tableBody_keeps_tables (args : List Byte) (act : TableId → State → State × Reply) (s : State)
    (hact : ∀ t, TablesLegal (act t s).1) (h : TablesLegal s) : TablesLegal (tableBody args act s).1 := by
  unfold tableBody
  split
  · split
    · exact h
    · exact hact _
  · exact h

/-! ### The bodies of the other requests keep the view -/

theorem tableView_readBody (args : List Byte) (fields : State → List Byte) (s : State) :
    tableView (readBody args fields s).1 = tableView s := by
  unfold readBody; split <;> rfl

theorem tableView_readErrorsBody (args : List Byte) (s : State) :
    tableView (readErrorsBody args s).1 = tableView s := by
  unfold readErrorsBody; split <;> rfl

theorem tableView_ackBody (args : List Byte) (s : State) : tableView (ackBody args s).1 = tableView s := by
  unfold ackBody
  (repeat' split) <;> try rfl
  · exact tableView_foldl _ (fun s r => tableView_ackRecord r s) _ _
  all_goals exact tableView_ackRecord _ _

theorem tableView_polesBody (args : List Byte) (act : List Pole → State → State × Status) (s : State)
    (hact : ∀ poles, tableView (act poles s).1 = tableView s) : tableView (polesBody args act s).1 = tableView s := by
  unfold polesBody
  (repeat' split) <;> try rfl
  exact hact _

theorem tableView_maskBody (args : List Byte) (s : State) : tableView (maskBody args s).1 = tableView s := by
  unfold maskBody
  (repeat' split) <;> try rfl
  exact tableView_setMask _ _ _

theorem tableView_readTableBody (args : List Byte) (s : State) : tableView (readTableBody args s).1 = tableView s := by
  unfold readTableBody
  (repeat' split) <;> rfl

/-- A request keeps the tables legal where its body does. -/
theorem runRequest_keeps_tables (code : ReqCode) (q : Request) (body : State → State × Reply) (s : State)
    (hbody : ∀ s1, TablesLegal s1 → TablesLegal (body s1).1) (h : TablesLegal s) :
    TablesLegal (runRequest code q body s) := by
  rcases tableView_runRequest code q body s with e | ⟨s1, e1, e⟩
  · exact tablesLegal_of_view e h
  · exact tablesLegal_of_view e (hbody s1 (tablesLegal_of_view e1 h))

/-- A request whose body keeps the view keeps it. -/
theorem tableView_runRequest_of_body (code : ReqCode) (q : Request) (body : State → State × Reply) (s : State)
    (hbody : ∀ s1, tableView (body s1).1 = tableView s1) : tableView (runRequest code q body s) = tableView s := by
  rcases tableView_runRequest code q body s with e | ⟨s1, e1, e⟩
  · exact e
  · rw [e, hbody, e1]

/-! ### The two resets -/

/-- R178: at RESTART the active tables stay, and no table is open or pending. -/
theorem tableView_restartAll (s : State) :
    tableView (restartAll s) = { tableView s with waiting := none, opened := none } := by
  unfold restartAll
  rw [tableView_commandAllOff]
  exact (tableView_placeNotice _ _).trans rfl

theorem restartAll_keeps_tables (s : State) (h : TablesLegal s) : TablesLegal (restartAll s) := by
  rw [tablesLegal_iff] at h ⊢
  rw [tableView_restartAll]
  obtain ⟨hsec, -, haux, hprof, hpar, hcls, -⟩ := h
  exact ⟨hsec, fun _ h => (nomatch h), haux, hprof, hpar, hcls, fun _ => rfl⟩

/-- A section table without a valid entry passes R13. -/
theorem walkSections_invalid (lower : List SectionEntry) (index n : Nat) :
    walkSections lower index (List.replicate n .invalid) = none := by
  induction n generalizing lower index with
  | zero => rfl
  | succ n ih => exact ih _ _

/-- R18, R21, R131, R161, R174: the power-on tables pass every walk, whatever the strap pins say. -/
theorem defaultTables_legal (strap : BitVec 3) : (tableView { State.reset with strap := strap }).Legal := by
  refine ⟨walkSections_invalid [] 0 128, fun _ h => (nomatch h), ?_, ?_, ?_, ?_, fun _ => rfl⟩
  · rfl
  · change firstFailing profileEntryFails defaultProfiles.toList = none
    decide
  · change firstBadParam (40 + strap.setWidth 6) defaultParams = none
    revert strap
    decide
  · change firstFailing classEntryFails defaultClassMap.toList = none
    decide

end Sys2Proof.Machine
end

section
namespace Sys2Proof.Machine

/-- The commands that can open, close or swap a table: the resets, the ends of a section deferral, and table loading. -/
def loadsTables : Instr → Bool
  | .powerOnReset | .upstreamTxEnd | .positionFrame _ | .tPosExpiry | .tableOpen _ | .tableCommit _ | .tableAbandon _
  | .tOpenExpiry | .lockSettings _ => true
  | _ => false

/-- Every other command leaves the active and pending tables and the open one as they are. -/
theorem exec_tableView (c : Instr) (s t : State) (hc : loadsTables c = false) (hx : exec c s = .next t) :
    tableView t = tableView s := by
  cases c <;> simp only [loadsTables, Bool.true_eq_false] at hc <;> obtain rfl : _ = t := Host.Outcome.next.inj hx
  case portUFrameReceived => split; exacts [rfl, tableView_receiveU _ _]
  case sctParameterCommit => split; exacts [tableView_publishView _ _, rfl]
  case tractionDemand => split <;> rfl
  case auxRequestOn => split; exacts [rfl, tableView_requestOn _ _, rfl]
  case auxRequestOff => split; exacts [rfl, tableView_requestOff _ _, rfl]
  case mgmtSegment => exact tableView_takeSegment _ _
  case tSegExpiry => split <;> rfl
  case portDFrameReceived => split; exacts [rfl, tableView_receiveD _ _]
  case driveStatus => split; exacts [rfl, tableView_judgeStatus _ _]
  case auxStatus =>
    (repeat' split) <;> try rfl
    exact tableView_takeStatus _ _ _
  case portSFrameReceived => split; exacts [rfl, tableView_receiveLine _ _]
  case sampleAccepted => exact tableView_takeSample _ _ _
  case commandTxStart =>
    (repeat' split) <;> try rfl
    exact tableView_startCommand _ _
  case arbitrationLost =>
    split
    · rfl
    · dsimp only
      split; exacts [rfl, tableView_setSlot _ _ _]
  case commandTxEnd =>
    split
    · rfl
    · dsimp only
      split; exacts [rfl, tableView_endCommand _ _ _]
  case tCmdExpiry => split <;> simp
  case tSmpExpiry => split <;> simp [loseSensor]
  case tRaiseExpiry => split <;> simp
  case tRetrExpiry => split <;> simp [repeatRetrieval]
  case sectionViewAtPwu => rfl
  case poleReport => exact tableView_evaluate _
  case sectionViewAtSmc => exact tableView_evaluate _
  case poleDropAckReport => exact tableView_evaluate _
  case noLineTimerExpiry => split; exacts [rfl, tableView_publishMode _ _]
  case voltageSample => rw [tableView_recompute, tableView_setVolts, tableView_taken]
  case modeAtCbu => exact tableView_recompute _
  case sectionViewAtCbu => exact tableView_recompute _
  case reservationAtCbu => exact tableView_recompute _
  case cbuParameterCommit => exact tableView_recompute _
  case budgetRecordAtTau => exact tableView_takeRecord _ _
  case budgetRecordAtAxs => exact tableView_takeRecordAxs _ _
  case cutRequest => rfl
  case tStaleExpiry => split; exacts [rfl, tableView_holdStale _]
  case tCutExpiry => split <;> rfl
  case minOnExpiry => rfl
  case minOffExpiry => split <;> simp
  case axsParameterCommit => simp [reviewLoads]
  case alarmRaise => exact tableView_raiseAlarm _ _ _
  case alarmClear => exact tableView_clearAlarm _ _
  case portDGrant => exact tableView_grant _
  case portDTxEnd => split; exacts [rfl, tableView_endPortD _ _]
  case holdStart => split <;> rfl
  case holdEnd =>
    split
    · rw [tableView_grant, tableView_judgeLinkHeld]; rfl
    · rfl
  case holdTimerExpiry => split <;> rfl
  case upstreamTxStart => split; exacts [rfl, tableView_startUpstream _]
  case readIdent => exact tableView_runRequest_of_body _ _ _ _ (tableView_readBody _ _)
  case readState => exact tableView_runRequest_of_body _ _ _ _ (tableView_readBody _ _)
  case readLoads => exact tableView_runRequest_of_body _ _ _ _ (tableView_readBody _ _)
  case readAlarms => exact tableView_runRequest_of_body _ _ _ _ (tableView_readBody _ _)
  case readErrors => exact tableView_runRequest_of_body _ _ _ _ (tableView_readErrorsBody _)
  case ackAlarm => exact tableView_runRequest_of_body _ _ _ _ (tableView_ackBody _)
  case poleRaise =>
    exact tableView_runRequest_of_body _ _ _ _ fun s1 => tableView_polesBody _ _ s1 (tableView_raisePoles · s1)
  case poleLower =>
    exact tableView_runRequest_of_body _ _ _ _ fun s1 => tableView_polesBody _ _ s1 (tableView_lowerPoles · s1)
  case setActMask => exact tableView_runRequest_of_body _ _ _ _ (tableView_maskBody _)
  case tableWrite => exact tableView_runRequest_of_body _ _ _ _ (tableView_writeBody _ _)
  case tableRead => exact tableView_runRequest_of_body _ _ _ _ (tableView_readTableBody _)
  case restart =>
    split
    · rfl
    · rename_i s1 h1
      have e := tableView_takeRequest _ _ _ _ h1
      split <;> exact e
  case unknownRequest =>
    (repeat' split) <;> try rfl
    rename_i s1 h1
    rw [tableView_respond, tableView_takeRequest _ _ _ _ h1]

/-- Every command keeps the tables legal. -/
theorem exec_keeps_tables (c : Instr) (s t : State) (h : TablesLegal s) (hx : exec c s = .next t) :
    TablesLegal t := by
  cases hc : loadsTables c with
  | false => exact tablesLegal_of_view (exec_tableView c s t hc hx) h
  | true =>
    cases c <;> simp only [loadsTables, Bool.false_eq_true] at hc <;> obtain rfl : _ = t := Host.Outcome.next.inj hx
    case powerOnReset => exact (tablesLegal_iff _).mpr (defaultTables_legal s.strap)
    case upstreamTxEnd =>
      split
      · exact h
      · dsimp only
        split; exacts [restartAll_keeps_tables _ h, h]
    case positionFrame =>
      split
      · exact h
      · split; exacts [h, acceptPosition_keeps_tables _ _ _ h]
    case tPosExpiry => split; exacts [h, losePosition_keeps_tables s h]
    case tOpenExpiry => exact abandonTable_keeps_tables _ s h
    case tableOpen q =>
      exact runRequest_keeps_tables _ _ _ _ (fun s1 h1 => tableBody_keeps_tables _ _ _
        (fun t => openTableFor_keeps_tables t q.source s1 h1) h1) h
    case tableCommit q =>
      exact runRequest_keeps_tables _ _ _ _ (fun s1 h1 => tableBody_keeps_tables _ _ _
        (fun t => commitTable_keeps_tables q.source t s1 h1) h1) h
    case tableAbandon q =>
      exact runRequest_keeps_tables _ _ _ _ (fun s1 h1 => tableBody_keeps_tables _ _ _
        (fun t => abandonBody_keeps_tables q.source t s1 h1) h1) h
    case lockSettings => exact runRequest_keeps_tables _ _ _ _ (lockBody_keeps_tables _) h

/-- A millisecond that passes touches no table. -/
theorem tableView_tick (s : State) : tableView (tick s) = tableView s := by
  cases h : s.mge.openTable <;> simp [tableView, tick, h]

/-- A step is one command, taken from the queue or the part's own, or a millisecond that passes. -/
theorem step_cases (s t : State) (h : step s = .next t) :
    (∃ c rest, s.pending = c :: rest ∧ exec c { s with pending := rest } = .next t) ∨
    (∃ c, s.pending = [] ∧ nextOwn s = some c ∧ exec c s = .next t) ∨
    (s.pending = [] ∧ nextOwn s = none ∧ t = tick s) := by
  unfold step at h
  split at h
  · rename_i c rest hp
    exact .inl ⟨c, rest, hp, h⟩
  · rename_i hp
    unfold idle at h
    split at h
    · rename_i c hn
      exact .inr (.inl ⟨c, hp, hn, h⟩)
    · rename_i hn
      exact .inr (.inr ⟨hp, hn, (Host.Outcome.next.inj h).symm⟩)

/-- Settles O59: every command that can swap or open a table keeps the tables legal, and no other touches them. -/
theorem tablesStayValid : Obligations.TablesStayValid := by
  intro s t h hs
  rcases step_cases s t hs with ⟨c, rest, -, hx⟩ | ⟨c, -, -, hx⟩ | ⟨-, -, rfl⟩
  · exact exec_keeps_tables c { s with pending := rest } t h hx
  · exact exec_keeps_tables c s t h hx
  · exact tablesLegal_of_view (tableView_tick s) h

end Sys2Proof.Machine
end

section
/-! The state after power-on reset: its values, and that it is legal in every block. -/

namespace Sys2Proof.Machine

/-- Settles O42: each value is read off the state that POWER_ON_RESET answers. -/
theorem powerOnResetValues : Obligations.PowerOnResetValues := by
  intro s
  have hsec : ∀ i : Fin 128, (Vector.replicate 128 SectionEntry.invalid)[i].valid = false := fun i => by
    simp [SectionEntry.invalid]
  have haux : ∀ i : Fin 16, (Vector.replicate 16 AuxEntry.invalid)[i].valid = false := fun i => by
    simp [AuxEntry.invalid]
  have hload : ∀ i : Fin 16, (Vector.replicate 16 LoadRec.reset)[i] = LoadRec.reset := fun i => by simp
  have hslot : ∀ pole t, t.pli.slotP = Slot.reset → t.pli.slotN = Slot.reset → slot t pole = Slot.reset := by
    intro pole t hp hn
    cases pole <;> assumption
  refine ⟨_, rfl, rfl, rfl, rfl, rfl, rfl, hsec, ⟨_, rfl, hsec⟩, rfl, rfl, rfl, rfl, rfl, rfl, rfl, rfl, rfl, rfl,
    fun pole => ⟨?_, ?_⟩, rfl, rfl, rfl, rfl, rfl, rfl, rfl, rfl, rfl, rfl, rfl, fun i => ⟨haux i, hload i⟩, ⟨_, rfl, haux⟩,
    rfl, rfl, rfl, rfl, rfl, rfl, rfl, rfl, rfl, rfl, rfl, rfl, rfl, rfl, rfl, rfl, rfl, rfl, rfl, rfl, rfl, rfl, rfl⟩
  · cases pole <;> rfl
  · cases pole <;> rfl

/-- A load after power-on reset: OFF, on no list, with no timer running. -/
theorem resetLoad_legal (i : LoadIx) : LoadLegal State.reset i := by
  have hr : loadRec State.reset i = LoadRec.reset := by simp [loadRec, State.reset, Axs.reset]
  have hj : State.reset.axs.joinOrder = [] := rfl
  simp [LoadLegal, hr, hj, LoadRec.reset]

/-- Settles O60, block by block. -/
theorem resetIsLegal : Obligations.ResetIsLegal := by
  have hchannel : ∀ mask smp, ChannelLegal (.fresh mask smp) := fun _ _ => by simp [ChannelLegal, Channel.fresh]
  have hsum : onSum State.reset = 0 := by
    simp [onSum, loadRec, State.reset, Axs.reset, LoadRec.reset]
  refine ⟨?alarms, ?supply, ?poles, ?traction, ?budget, ?loads, ?lanes, ?queues, ?tables⟩
  case alarms => exact ⟨List.nodup_nil, fun _ h => nomatch h⟩
  case supply => simp [SupplyLegal, State.reset, Smc.reset]
  case poles =>
    refine ⟨hchannel _ _, hchannel _ _, fun pole h => ?_, fun h => nomatch h⟩
    cases pole <;> exact absurd rfl h
  case traction =>
    refine ⟨?_, ?_, ?_, rfl⟩ <;> simp [State.reset, Tau.fresh, resetRecord]
  case budget => exact ⟨rfl, .inl rfl, fun _ => rfl⟩
  case loads => exact ⟨hsum.symm, List.nodup_nil, resetLoad_legal⟩
  case lanes => simp [LanesLegal, State.reset, Dec.reset, Lanes.empty]
  case queues =>
    simp [QueuesLegal, State.reset, Upi.reset, Mge.reset, responseCount, waitingKeys, waitingPairs]
  case tables => exact (tablesLegal_iff _).mpr (defaultTables_legal 0)

end Sys2Proof.Machine
end

section
/-! The alarm list: finding, replacing and removing the one record of a key, and the raise and clear requests. -/

namespace Sys2Proof.Machine

/-! ### The record of a key in the list (R132, R134) -/

theorem findAlarm_eq_none_iff (key : AlarmKey) (s : State) : findAlarm key s = none ↔ ∀ x ∈ s.alm, x.key ≠ key := by
  simp [findAlarm]

section OneRecord

variable {pre post : List AlarmRec} {r : AlarmRec} {s : State}

theorem findAlarm_split (hs : s.alm = pre ++ r :: post) (hk : ∀ x ∈ pre ++ post, x.key ≠ r.key) :
    findAlarm r.key s = some r := by
  have hpre : pre.find? (fun x => decide (x.key = r.key)) = none :=
    List.find?_eq_none.mpr fun x hx => by simpa using hk x (List.mem_append_left _ hx)
  simp [findAlarm, hs, List.find?_append, hpre]

/-- R134: a changed record stands in its key's place. -/
theorem setAlarm_split {r' : AlarmRec} (hk : ∀ x ∈ pre ++ post, x.key ≠ r.key) (hr : r'.key = r.key) :
    setAlarm r' (pre ++ r :: post) = pre ++ r' :: post := by
  have keep : ∀ l : List AlarmRec, (∀ x ∈ l, x ∈ pre ++ post) →
      l.map (fun x => if x.key = r'.key then r' else x) = l := fun l hl =>
    (List.map_congr_left fun x hx => if_neg (hr ▸ hk x (hl x hx))).trans (List.map_id' l)
  simp only [setAlarm, List.map_append, List.map_cons, hr.symm, if_true]
  rw [keep pre fun x hx => List.mem_append_left _ hx, keep post fun x hx => List.mem_append_right _ hx]

/-- R134: the records after a removed one close up. -/
theorem dropAlarm_split (hk : ∀ x ∈ pre ++ post, x.key ≠ r.key) :
    dropAlarm r.key (pre ++ r :: post) = pre ++ post := by
  have keep : (pre ++ post).filter (fun x => decide (x.key ≠ r.key)) = pre ++ post :=
    List.filter_eq_self.mpr fun x hx => decide_eq_true (hk x hx)
  rw [List.filter_append] at keep
  simpa [dropAlarm] using keep

end OneRecord

/-! ### Frames and reports (R141 to R143) -/

theorem placeAlarmFrame_eq (event : AlarmEvent) (r : AlarmRec) (s : State) :
    placeAlarmFrame event r s =
      { s with upi.groupA := putAlarm r.key (alarmFrame s (alarmEventCode event) r) s.upi.groupA } := rfl

theorem reportDropAck_eq (key : AlarmKey) (s : State) : reportDropAck key s = hand (dropReport key) s := by
  cases key <;> simp [reportDropAck, dropReport, hand]

/-- R143: a key's frame takes the place of its waiting one. -/
theorem putAlarm_replaces (key : AlarmKey) (f g : Frame) (pre post : List GroupA) (h : key ∉ waitingKeys pre) :
    putAlarm key f (pre ++ .alarm key g :: post) = pre ++ .alarm key f :: post := by
  induction pre with
  | nil => simp [putAlarm]
  | cons x rest ih =>
    cases x with
    | response y b => rw [List.cons_append, putAlarm, ih h, List.cons_append]
    | alarm k y =>
      have hmem : key ∉ k :: waitingKeys rest := h
      rw [List.mem_cons, not_or] at hmem
      rw [List.cons_append, putAlarm, if_neg (Ne.symm hmem.1), ih hmem.2, List.cons_append]

/-! ### Raise and clear (R136 to R138) -/

theorem raiseAlarm_absent (key : AlarmKey) (acted : Bool) (s : State) (h : ∀ x ∈ s.alm, x.key ≠ key) :
    raiseAlarm key acted s = placeAlarmFrame .raised (newAlarm key acted s)
      { s with alm := s.alm ++ [newAlarm key acted s] } := by
  simp [raiseAlarm, (findAlarm_eq_none_iff key s).mpr h]

theorem raiseAlarm_present (acted : Bool) {pre post : List AlarmRec} {r : AlarmRec} {s : State}
    (hs : s.alm = pre ++ r :: post) (hk : ∀ x ∈ pre ++ post, x.key ≠ r.key) :
    raiseAlarm r.key acted s =
      placeAlarmFrame (if r.state = .clearedUnacked then .raised else .repeated) (repeatAlarm acted s.ms r)
        { s with alm := pre ++ repeatAlarm acted s.ms r :: post } := by
  have hkey : (repeatAlarm acted s.ms r).key = r.key := rfl
  simp only [raiseAlarm, findAlarm_split hs hk, hs, setAlarm_split hk hkey]

theorem clearAlarm_idle (key : AlarmKey) (s : State) (h : ∀ x ∈ s.alm, x.key = key → x.state = .clearedUnacked) :
    clearAlarm key s = s := by
  unfold clearAlarm
  split
  · rfl
  · rename_i r hr
    have hstate := h r (List.mem_of_find?_eq_some hr) (by simpa using List.find?_some hr)
    rw [hstate]

theorem clearAlarm_unacked {pre post : List AlarmRec} {r : AlarmRec} {s : State}
    (hs : s.alm = pre ++ r :: post) (hk : ∀ x ∈ pre ++ post, x.key ≠ r.key) (hstate : r.state = .raisedUnacked) :
    clearAlarm r.key s = placeAlarmFrame .cleared { r with state := .clearedUnacked }
      { s with alm := pre ++ { r with state := .clearedUnacked } :: post } := by
  simp only [clearAlarm, findAlarm_split hs hk, hstate, hs,
    setAlarm_split hk (show { r with state := .clearedUnacked : AlarmRec }.key = r.key from rfl)]

theorem clearAlarm_acked {pre post : List AlarmRec} {r : AlarmRec} {s : State}
    (hs : s.alm = pre ++ r :: post) (hk : ∀ x ∈ pre ++ post, x.key ≠ r.key) (hstate : r.state = .raisedAcked) :
    clearAlarm r.key s =
      hand (dropReport r.key) { placeAlarmFrame .removed r s with alm := pre ++ post } := by
  simp only [clearAlarm, findAlarm_split hs hk, hstate, removeAlarm, reportDropAck_eq]
  have : dropAlarm r.key (placeAlarmFrame .removed r s).alm = pre ++ post := hs ▸ dropAlarm_split hk
  rw [this]

/-- Settles O33: the request is executed with its event taken, which touches no record. -/
theorem alarmsRaisedAndCleared : Obligations.AlarmsRaisedAndCleared := by
  refine ⟨?raiseNew, ?raiseAgain, ?frames, ?clearIdle, ?clear⟩
  case raiseNew =>
    intro key acted s h
    exact congrArg Host.Outcome.next (raiseAlarm_absent key acted (taken _ s) h)
  case raiseAgain =>
    intro acted pre post r s hs hk
    refine congrArg Host.Outcome.next ((raiseAlarm_present (s := taken _ s) acted hs hk).trans ?_)
    have hcode : alarmEventCode (if r.state = .clearedUnacked then .raised else .repeated) =
        if r.state = .clearedUnacked then 1 else 2 := by split <;> rfl
    rw [placeAlarmFrame_eq, hcode]
    rfl
  case frames => exact fun key f g pre post h => ⟨putAlarm_replaces key f g pre post h, putAlarm_absent key f pre h⟩
  case clearIdle =>
    intro key s h
    exact congrArg Host.Outcome.next (clearAlarm_idle key (taken _ s) h)
  case clear =>
    intro pre post r s hs hk
    exact ⟨fun hstate => congrArg Host.Outcome.next (clearAlarm_unacked (s := taken _ s) hs hk hstate),
      fun hstate => congrArg Host.Outcome.next (clearAlarm_acked (s := taken _ s) hs hk hstate)⟩

end Sys2Proof.Machine
end

section
/-! The Section Tracker: publishing a view, ending a deferral, and what a position frame, the expiry of T_pos and a
parameter commit leave. -/

namespace Sys2Proof.Machine

/-! ### Notices -/

/-- A notice writes the upstream interface alone. -/
theorem placeNotice_frame (payload : List Byte) (s : State) :
    placeNotice payload s = { s with upi := (placeNotice payload s).upi } := by
  rcases placeNotice_spec payload s with ⟨-, e⟩ | ⟨-, e⟩ <;> rw [e]

/-- What a notice makes of the upstream interface depends on that, on the parameters and on the node address alone. -/
theorem placeNotice_upi_congr (payload : List Byte) {s t : State} (hu : t.upi = s.upi) (hm : t.mge = s.mge)
    (hs : t.strap = s.strap) : (placeNotice payload t).upi = (placeNotice payload s).upi := by
  simp only [placeNotice, partNode, hu, hm, hs, apply_ite State.upi]

/-- The same of a notice that is placed only where a condition fails. -/
theorem noticeUnless_upi_congr (c : Prop) [Decidable c] (payload : List Byte) {s t : State} (hu : t.upi = s.upi)
    (hm : t.mge = s.mge) (hs : t.strap = s.strap) :
    (if c then t else placeNotice payload t).upi = (if c then s else placeNotice payload s).upi := by
  split
  · exact hu
  · exact placeNotice_upi_congr payload hu hm hs

/-! ### Publishing (R6) and the deferral (R16) -/

/-- R6: the three events that a published view hands over. -/
def viewEvents (v : View) : List Instr := [.sectionViewAtSmc v, .sectionViewAtCbu v, .sectionViewAtPwu v]

theorem publishView_same (s : State) : publishView s.sct.view s = s :=
  ((publishView_spec s.sct.view s).resolve_right fun h => h.1 rfl).2

theorem publishView_changed {v : View} {s : State} (h : v ≠ s.sct.view) :
    publishView v s = { s with
      sct.view := v
      handed := s.handed ++ viewEvents v
      upi := (placeNotice (1 :: viewBlock v s.sct.position s.sct.matched) s).upi } := by
  rw [((publishView_spec v s).resolve_left fun e => h e.1).2, placeNotice_frame]
  congr 1
  exact placeNotice_upi_congr _ rfl rfl rfl

theorem publishView_eq (v : View) (s : State) :
    publishView v s = { s with
      sct.view := v
      handed := s.handed ++ if v = s.sct.view then [] else viewEvents v
      upi := (if v = s.sct.view then s else placeNotice (1 :: viewBlock v s.sct.position s.sct.matched) s).upi } := by
  by_cases h : v = s.sct.view
  · subst h
    simp [publishView_same]
  · rw [publishView_changed h, if_neg h, if_neg h]

/-- R4, R9: the match of the stored position is recorded, and the view it gives is published. -/
theorem lookupAndPublish_eq (s : State) :
    lookupAndPublish s = { s with
      sct := { s.sct with matched := matchStored s, view := computeView s }
      handed := s.handed ++ if computeView s = s.sct.view then [] else viewEvents (computeView s)
      upi := (if computeView s = s.sct.view then s
        else placeNotice (1 :: viewBlock (computeView s) s.sct.position (matchStored s)) s).upi } := by
  have hv : computeView { s with sct.matched := matchStored s } = computeView s := rfl
  rw [lookupAndPublish, hv, publishView_eq]
  congr 1
  exact noticeUnless_upi_congr _ _ rfl rfl rfl

theorem endDeferral_none (s : State) (h : s.sct.pendingTbl = none) : endDeferral s = s := by
  simp [endDeferral, h]

theorem endDeferral_gap (s : State) (h : isGap (computeView s).kind = true) : endDeferral s = s := by
  unfold endDeferral
  split <;> simp [h]

/-- R16: the pending table becomes active, with the notice TABLE_COMMITTED. -/
theorem endDeferral_swap (s : State) (new : SectionTable) (hp : s.sct.pendingTbl = some new)
    (h : isGap (computeView s).kind = false) :
    endDeferral s = { s with
      sct := { s.sct with active := new, pendingTbl := none }
      upi := (placeNotice [2, 0] s).upi } := by
  simp only [endDeferral, hp, h, Bool.false_eq_true, if_false]
  rw [placeNotice_frame]
  congr 1
  exact placeNotice_upi_congr _ rfl rfl rfl

/-! ### Position frames (R3, R4) -/

/-- R4, steps 1 to 3: the position is stored, T_pos restarts, and POSITION_LOST is asked to clear where it is raised. -/
def positionStored (route : Byte) (c : Half) (s : State) : State :=
  { s with
    sct := { s.sct with position := some (route, c), tPos := some (tPos s.mge.params) }
    handed := s.handed ++ if positionLostRaised s then [.alarmClear .positionLost] else [] }

theorem acceptPosition_eq (route : Byte) (c : Half) (s : State) :
    acceptPosition route c s = lookupAndPublish (endDeferral (positionStored route c s)) := by
  have hl : positionLostRaised { s with sct.position := some (route, c), sct.tPos := some (tPos s.mge.params) } =
      positionLostRaised s := rfl
  simp only [acceptPosition, positionStored]
  rw [hl]
  cases positionLostRaised s <;> simp [hand]

theorem exec_positionFrame {f : Frame} {route hi lo : Byte} (s : State) (hf : f.payload = [route, hi, lo])
    (hr : route ≠ 255) :
    exec (.positionFrame f) s = .next (acceptPosition route (hi ++ lo) (taken (.positionFrame f) s)) := by
  simp only [exec, execPositionFrame, hf, positionPayload, if_neg hr, half]

/-- R3: no other payload is a position. -/
theorem exec_positionFrame_ignored (f : Frame) (s : State) (h : f.payload.length ≠ 3 ∨ f.payload[0]? = some 255) :
    exec (.positionFrame f) s = .next (errorU .badField (taken (.positionFrame f) s)) := by
  simp only [exec, execPositionFrame]
  congr 1
  split
  · rfl
  · rename_i route c hp
    have hroute : route = 255 := by
      unfold positionPayload at hp
      split at hp
      · rename_i r hi lo hf
        obtain ⟨rfl, -⟩ := Prod.mk.inj (Option.some.inj hp)
        simpa [hf] using h
      · cases hp
    exact if_pos hroute

/-- Settles O3: with no commit pending the deferral has nothing to end, and the match is published. -/
theorem positionFrameJudged : Obligations.PositionFrameJudged := by
  refine ⟨fun f s h => (exec_positionFrame_ignored f s h).trans ?_, fun f route hi lo s hf hr hp => ?_⟩
  · rw [errorU, takeCode_spec]; rfl
  · have hexec := exec_positionFrame s hf hr
    rw [acceptPosition_eq, endDeferral_none (positionStored route (hi ++ lo) (taken (.positionFrame f) s)) hp,
      lookupAndPublish_eq] at hexec
    exact ⟨_, hexec, rfl, rfl, noticeUnless_upi_congr _ _ rfl rfl rfl, rfl⟩

/-- Settles O6: a gap in the old table leaves the commit pending; any other view swaps before the one publication. -/
theorem positionEndsDeferral : Obligations.PositionEndsDeferral := by
  intro f route hi lo new s hf hr hp c gap table m v s1 s0
  have hexec := exec_positionFrame s hf hr
  rw [acceptPosition_eq] at hexec
  cases hg : gap with
  | true =>
    rw [endDeferral_gap (positionStored route c (taken (.positionFrame f) s)) hg, lookupAndPublish_eq] at hexec
    refine ⟨_, hexec, ?_⟩
    simp only [v, m, table, s1, s0, hg, if_true]
    exact ⟨by rw [← hp]; rfl, rfl, noticeUnless_upi_congr _ _ rfl rfl rfl, rfl⟩
  | false =>
    rw [endDeferral_swap (positionStored route c (taken (.positionFrame f) s)) new hp hg, lookupAndPublish_eq] at hexec
    refine ⟨_, hexec, ?_⟩
    simp only [v, m, table, s1, s0, hg, Bool.false_eq_true, if_false]
    refine ⟨rfl, rfl, noticeUnless_upi_congr _ _ ?_ ?_ ?_, rfl⟩
    · exact placeNotice_upi_congr _ rfl rfl rfl
    · simp [positionStored]
    · simp [positionStored]

/-! ### The expiry of T_pos (R9) and the default section cap (R8) -/

/-- R9, the first steps: no position, no match, and T_pos stopped. -/
def positionGone (s : State) : State := { s with sct.position := none, sct.matched := none, sct.tPos := none }

theorem exec_tPosExpiry {n : Nat} {s : State} (h : s.sct.tPos = some n) :
    exec .tPosExpiry s =
      .next (hand [.alarmRaise .positionLost false] (lookupAndPublish (endDeferral (positionGone s)))) := by
  simp only [exec, execTPosExpiry, h]
  rfl

theorem exec_sctParameterCommit (s : State) :
    exec .sctParameterCommit s =
      .next (if s.sct.view.id = 0 then
          publishView { s.sct.view with cap := defaultCap s.mge.params } (taken .sctParameterCommit s)
        else taken .sctParameterCommit s) := rfl

/-- Settles O7: the unknown position is no gap, so the deferral ends; a default-section view takes the new cap. -/
theorem positionLostAndDefaultCap : Obligations.PositionLostAndDefaultCap := by
  refine ⟨?lost, ?cap⟩
  case lost =>
    intro n s hn v s1
    have hexec := exec_tPosExpiry hn
    cases hp : s.sct.pendingTbl with
    | none =>
      rw [endDeferral_none (positionGone s) hp, lookupAndPublish_eq] at hexec
      refine ⟨_, hexec, ?_⟩
      simp only [s1, hp, Option.isSome_none, Bool.false_eq_true, if_false]
      have hpending : (positionGone s).sct.pendingTbl = none := hp
      exact ⟨by rw [hand_sct, hpending]; rfl, rfl, noticeUnless_upi_congr _ _ rfl rfl rfl, rfl⟩
    | some new =>
      rw [endDeferral_swap (positionGone s) new hp rfl, lookupAndPublish_eq] at hexec
      refine ⟨_, hexec, ?_⟩
      simp only [s1, hp, Option.isSome_some, if_true]
      refine ⟨rfl, rfl, noticeUnless_upi_congr _ _ ?_ ?_ ?_, rfl⟩
      · exact placeNotice_upi_congr _ rfl rfl rfl
      · simp [positionGone]
      · simp [positionGone]
  case cap =>
    intro s v s1
    rw [exec_sctParameterCommit]
    refine ⟨fun h => congrArg Host.Outcome.next ?_, fun hid hcap => congrArg Host.Outcome.next ?_⟩
    · by_cases hid : s.sct.view.id = 0
      · have hv : { s.sct.view with cap := defaultCap s.mge.params } = s.sct.view := by
          rw [← h.resolve_left (not_not_intro hid)]
        rw [if_pos hid, hv]
        exact publishView_same (taken .sctParameterCommit s)
      · rw [if_neg hid]; rfl
    · have hv : v ≠ s.sct.view := fun e => hcap (congrArg View.cap e).symm
      rw [if_pos hid]
      refine (publishView_changed (s := taken .sctParameterCommit s) hv).trans ?_
      congr 1
      exact placeNotice_upi_congr _ rfl rfl rfl

end Sys2Proof.Machine
end

section
/-! The commit walks of the five tables, and the lookup in a validated section table. -/

namespace Sys2Proof.Machine

/-! ### A walk that stops at the first failing index -/

/-- A walk that answers an index exactly where it fails and none before it does. It then answers nothing exactly where
none fails, since of the failing indices one is the least. -/
theorem namesFirstFailure_of_some {n : Nat} {walk : Option Nat} {fails : Fin n → Prop}
    (h : ∀ k, walk = some k ↔ ∃ hk : k < n, fails ⟨k, hk⟩ ∧ ∀ i : Fin n, i.val < k → ¬ fails i) :
    NamesFirstFailure walk fails := by
  refine ⟨⟨fun hw j hj => ?_, fun hn => ?_⟩, fun j => ?_⟩
  · have hleast : ∃ k : Fin n, fails k ∧ ∀ i, i < k → ¬ fails i := by
      obtain ⟨k, hk, hmin⟩ := WellFounded.has_min (wellFounded_lt (α := Fin n)) {k | fails k} ⟨j, hj⟩
      exact ⟨k, hk, fun i hi hf => hmin i hf hi⟩
    obtain ⟨k, hk, hbefore⟩ := hleast
    have hs := (h k).mpr ⟨k.isLt, hk, hbefore⟩
    rw [hw] at hs
    cases hs
  · cases hw : walk with
    | none => rfl
    | some k =>
      obtain ⟨hk, hf, -⟩ := (h k).mp hw
      exact absurd hf (hn _)
  · exact (h j).trans ⟨fun ⟨_, hf, hb⟩ => ⟨hf, hb⟩, fun ⟨hf, hb⟩ => ⟨j.isLt, hf, hb⟩⟩

/-- R22, R127, R157: the walk of a table whose entries fail on their own. -/
theorem firstFailing_namesFirst {α : Type} {n : Nat} {p : α → Bool} {t : Vector α n} {fails : Fin n → Prop}
    (hp : ∀ j : Fin n, p t[j] = true ↔ fails j) : NamesFirstFailure (firstFailing p t.toList) fails := by
  refine namesFirstFailure_of_some fun k => ?_
  rw [firstFailing, List.findIdx?_eq_some_iff_getElem]
  simp only [Vector.length_toList, Vector.getElem_toList]
  constructor
  · rintro ⟨hk, hpk, hb⟩
    exact ⟨hk, (hp ⟨k, hk⟩).mp hpk, fun i hi hf => hb i hi ((hp i).mpr hf)⟩
  · rintro ⟨hk, hf, hb⟩
    exact ⟨hk, (hp ⟨k, hk⟩).mpr hf, fun i hi hpi => hb ⟨i, by omega⟩ hi ((hp ⟨i, by omega⟩).mp hpi)⟩

/-- R175: the walk by index, for a table whose entries are judged beside each other. -/
theorem firstBadParam_namesFirst {part : Node} {t : ParamTable} {fails : Fin 27 → Prop}
    (hp : ∀ j, paramFails part t j = true ↔ fails j) : NamesFirstFailure (firstBadParam part t) fails := by
  refine namesFirstFailure_of_some fun k => ?_
  rw [firstBadParam, Option.map_eq_some_iff]
  constructor
  · rintro ⟨j, hj, rfl⟩
    obtain ⟨hpj, i, hi, rfl, hb⟩ := List.find?_eq_some_iff_getElem.mp hj
    refine ⟨Fin.isLt _, (hp _).mp hpj, fun m hm hf => ?_⟩
    have hlt : m.val < i := by simpa using hm
    simpa [(hp m).mpr hf] using hb m.val hlt
  · rintro ⟨hk, hf, hb⟩
    refine ⟨⟨k, hk⟩, List.find?_eq_some_iff_getElem.mpr ⟨(hp _).mpr hf, k, by simpa using hk, by simp, fun m hm => ?_⟩, rfl⟩
    have hn := hb ⟨m, by omega⟩ hm
    rw [← hp] at hn
    simpa using hn

/-! ### The section table (R13) -/

/-- The walk from an index, over the entries from there on and with those before it at hand. -/
theorem walkSections_eq_some_iff (lower : List SectionEntry) (index m : Nat) (l : List SectionEntry) :
    walkSections lower index l = some m ↔ ∃ k, m = index + k ∧ ∃ hk : k < l.length,
      sectionEntryFails (lower ++ l.take k) l[k] = true ∧
      ∀ i (hi : i < k), sectionEntryFails (lower ++ l.take i) l[i] = false := by
  induction l generalizing lower index with
  | nil => simp [walkSections]
  | cons e rest ih =>
    unfold walkSections
    split
    · rename_i hf
      constructor
      · rintro ⟨⟩
        exact ⟨0, rfl, by simp, by simpa using hf, fun _ hi => absurd hi (by omega)⟩
      · rintro ⟨k, rfl, hk, hkf, hb⟩
        cases k with
        | zero => rfl
        | succ k => exact absurd (hb 0 (by omega)) (by simpa using hf)
    · rename_i hf
      rw [ih]
      constructor
      · rintro ⟨k, rfl, hk, hkf, hb⟩
        refine ⟨k + 1, by omega, by simpa using hk, by simpa using hkf, fun i hi => ?_⟩
        cases i with
        | zero => simpa using hf
        | succ i => simpa using hb i (by omega)
      · rintro ⟨k, rfl, hk, hkf, hb⟩
        cases k with
        | zero => exact absurd (by simpa using hkf) hf
        | succ k =>
          refine ⟨k, by omega, by simpa using hk, by simpa using hkf, fun i hi => ?_⟩
          simpa using hb (i + 1) (by omega)

theorem sectionKindOf_eq_none_iff (c : Byte) : sectionKindOf c = none ↔ 4 < c.toNat := by
  revert c; decide

theorem entriesConflict_iff (a b : SectionEntry) :
    entriesConflict a b = true ↔ a.valid = true ∧ (a.id = b.id ∨ a.route = b.route ∧ Overlaps a b) := by
  simp [entriesConflict, spansOverlap, Overlaps]

/-- R13: an entry of the table is judged against those at the lower indices. -/
theorem sectionEntryFails_iff (t : SectionTable) (j : Fin 128) :
    sectionEntryFails (t.toList.take j) t[j] = true ↔ SectionFails t j := by
  have hlower : (t.toList.take j).any (fun x => entriesConflict x t[j]) = true ↔
      ∃ i : Fin 128, i < j ∧ t[i].valid = true ∧ (t[i].id = t[j].id ∨ t[i].route = t[j].route ∧ Overlaps t[i] t[j]) := by
    simp only [List.any_eq_true, entriesConflict_iff, List.mem_take_iff_getElem]
    constructor
    · rintro ⟨x, ⟨i, hi, rfl⟩, hx⟩
      have hij : i < j.val := by simpa using hi
      exact ⟨⟨i, by omega⟩, hij, by simpa using hx⟩
    · rintro ⟨i, hij, hx⟩
      exact ⟨t[i], ⟨i.val, by simpa using hij, by simp⟩, hx⟩
  simp only [sectionEntryFails, SectionFails, Bool.and_eq_true, Bool.or_eq_true, decide_eq_true_eq, hlower,
    Option.isNone_iff_eq_none, sectionKindOf_eq_none_iff, Nat.not_lt]
  refine and_congr_right fun _ => ?_
  constructor
  · rintro ((((h | h) | h) | h) | ⟨i, hij, hv, hid | ⟨hr, ho⟩⟩)
    · exact .inl h
    · exact .inr (.inl h)
    · exact .inr (.inr (.inl h))
    · exact .inr (.inr (.inr (.inl h)))
    · exact .inr (.inr (.inr (.inr (.inl ⟨i, hij, hv, hid⟩))))
    · by_cases hall : t[j].route = 255
      · exact .inr (.inr (.inr (.inr (.inr (.inr ⟨hall, i, hij, hv, hr.trans hall, ho⟩)))))
      · exact .inr (.inr (.inr (.inr (.inr (.inl ⟨hall, i, hij, hv, hr, ho⟩)))))
  · rintro (h | h | h | h | ⟨i, hij, hv, hid⟩ | ⟨-, i, hij, hv, hr, ho⟩ | ⟨hall, i, hij, hv, hr, ho⟩)
    · exact .inl (.inl (.inl (.inl h)))
    · exact .inl (.inl (.inl (.inr h)))
    · exact .inl (.inl (.inr h))
    · exact .inl (.inr h)
    · exact .inr ⟨i, hij, hv, .inl hid⟩
    · exact .inr ⟨i, hij, hv, .inr ⟨hr, ho⟩⟩
    · exact .inr ⟨i, hij, hv, .inr ⟨hr.trans hall.symm, ho⟩⟩

/-- R13: the walk of the whole table. -/
theorem firstBadSection_namesFirst (t : SectionTable) : NamesFirstFailure (firstBadSection t) (SectionFails t) := by
  refine namesFirstFailure_of_some fun k => ?_
  rw [firstBadSection, walkSections_eq_some_iff]
  simp only [List.nil_append, Nat.zero_add, Vector.getElem_toList, Vector.length_toList]
  constructor
  · rintro ⟨_, rfl, hk, hf, hb⟩
    refine ⟨hk, (sectionEntryFails_iff t ⟨k, hk⟩).mp hf, fun i hi hfi => ?_⟩
    exact absurd ((sectionEntryFails_iff t i).mpr hfi) (Bool.eq_false_iff.mp (hb i hi))
  · rintro ⟨hk, hf, hb⟩
    refine ⟨k, rfl, hk, (sectionEntryFails_iff t ⟨k, hk⟩).mpr hf, fun i hi => Bool.eq_false_iff.mpr fun h => ?_⟩
    exact hb ⟨i, by omega⟩ hi ((sectionEntryFails_iff t ⟨i, by omega⟩).mp h)

/-! ### The other tables (R22, R127, R157, R174, R175) -/

theorem auxEntryFails_iff (part : Node) (e : AuxEntry) : auxEntryFails part e = true ↔ AuxFails part e := by
  simp [auxEntryFails, AuxFails, or_assoc]

theorem profileEntryFails_iff (e : ProfileEntry) : profileEntryFails e = true ↔ ProfileFails e := by
  simp only [profileEntryFails, ProfileFails, Bool.or_eq_true, decide_eq_true_eq, not_and_or, Nat.not_lt, Nat.not_le,
    Nat.lt_one_iff, or_assoc]

theorem classEntryFails_iff (c : Byte) : classEntryFails c = true ↔ c ≠ 0 ∧ c ≠ 1 ∧ c ≠ 2 := by
  revert c; decide

/-- R174: the ranges that the walk looks up are those of the table of parameters. -/
theorem paramRange_eq_bounds (j : Fin 27) : paramRange.getD j.val (0, 65535) = paramBounds j.val := by
  revert j; decide

/-- R175: the relations, where the inverter node is a node number. -/
theorem paramRelationBroken_iff (part : Node) (t : ParamTable) (j : Fin 27) (hnode : j = 15 → t[15].toNat ≤ 63) :
    paramRelationBroken part t j.val = true ↔
      (j = 2 ∧ ¬ t[1].toNat < t[2].toNat) ∨ (j = 3 ∧ ¬ t[3].toNat < t[1].toNat) ∨
      (j = 4 ∧ ¬ t[3].toNat < t[4].toNat) ∨ (j = 6 ∧ ¬ t[5].toNat < t[6].toNat) ∨
      (j = 15 ∧ t[15].toNat = part.toNat) := by
  unfold paramRelationBroken
  split_ifs with h2 h3 h4 h6 h15
  · obtain rfl : j = 2 := Fin.ext h2
    rw [decide_eq_true_iff]
    simp [vKnee, vMin]
  · obtain rfl : j = 3 := Fin.ext h3
    rw [decide_eq_true_iff]
    simp [vMin, vLost]
  · obtain rfl : j = 4 := Fin.ext h4
    rw [decide_eq_true_iff]
    simp [vRestore, vLost]
  · obtain rfl : j = 6 := Fin.ext h6
    rw [decide_eq_true_iff]
    simp [vRk, vRmax]
  · obtain rfl : j = 15 := Fin.ext h15
    have hlow : t[15].toNat % 64 = t[15].toNat := Nat.mod_eq_of_lt (by have := hnode rfl; omega)
    simp [inverterNode, BitVec.toNat_eq, hlow]
  · simp only [false_iff]
    rintro (⟨rfl, -⟩ | ⟨rfl, -⟩ | ⟨rfl, -⟩ | ⟨rfl, -⟩ | ⟨rfl, -⟩) <;> contradiction

/-- R175: out of its range a parameter fails for that; within it the walk and the rule compare the same values. -/
theorem paramFails_iff (part : Node) (t : ParamTable) (j : Fin 27) :
    paramFails part t j = true ↔ ParamFails part t j := by
  simp only [paramFails, ParamFails, paramRange_eq_bounds, Bool.or_eq_true, decide_eq_true_eq]
  by_cases hin : (paramBounds j.val).1 ≤ t[j].toNat ∧ t[j].toNat ≤ (paramBounds j.val).2
  · have hnode : j = 15 → t[15].toNat ≤ 63 := by rintro rfl; exact hin.2
    rw [paramRelationBroken_iff part t j hnode]
    simp only [hin, and_self, not_true_eq_false, false_or, Nat.not_lt.mpr hin.1, Nat.not_lt.mpr hin.2]
    rfl
  · simp only [hin, not_false_eq_true, true_or, iff_true]
    exact .inl (by omega)

/-- Settles O5: each walk stops at the first entry that its own rule refuses. -/
theorem tableWalksNameFirstFailure : Obligations.TableWalksNameFirstFailure := by
  refine fun s => ⟨fun t ht => ⟨?_, firstBadSection_namesFirst t⟩, fun t ht => ?_, fun t ht => ?_, fun t ht => ?_,
    fun t ht => ?_⟩ <;> simp only [firstBad, ht, Option.bind_some]
  · exact firstFailing_namesFirst fun j => auxEntryFails_iff _ _
  · exact firstFailing_namesFirst fun j => profileEntryFails_iff _
  · exact firstBadParam_namesFirst fun j => paramFails_iff _ _ _
  · exact firstFailing_namesFirst fun j => classEntryFails_iff _

/-! ### The lookup (R5) -/

theorem entryCovers_iff (e : SectionEntry) (route : Byte) (c : Half) :
    entryCovers e route c = true ↔ Covers e route c := by
  simp [entryCovers, Covers, and_assoc]

/-- R1, R13: in a validated table at most one entry of a tag covers a chainage. -/
theorem covers_unique {t : SectionTable} (ht : firstBadSection t = none) {route : Byte} {c : Half} {i j : Fin 128}
    (hi : Covers t[i] route c) (hj : Covers t[j] route c) : i = j := by
  have hno : ∀ a b : Fin 128, a < b → Covers t[a] route c → Covers t[b] route c → False := by
    intro a b hab ⟨hav, har, has, hae⟩ ⟨hbv, hbr, hbs, hbe⟩
    have ho : Overlaps t[a] t[b] := ⟨by omega, by omega⟩
    refine (firstBadSection_namesFirst t).1.mp ht b ⟨hbv, ?_⟩
    by_cases hall : t[b].route = 255
    · exact .inr (.inr (.inr (.inr (.inr (.inr ⟨hall, a, hab, hav, har.trans (hbr.symm.trans hall), ho⟩)))))
    · exact .inr (.inr (.inr (.inr (.inr (.inl ⟨hall, a, hab, hav, har.trans hbr.symm, ho⟩)))))
  rcases lt_trichotomy i j with h | h | h
  · exact (hno i j h hi hj).elim
  · exact h
  · exact (hno j i h hj hi).elim

/-- One stage of the lookup answers the entry that covers the chainage, where one does. -/
theorem lookupStage_eq_some_iff {t : SectionTable} (ht : firstBadSection t = none) (route : Byte) (c : Half)
    (i : Fin 128) : lookupStage t route c = some i ↔ Covers t[i] route c := by
  constructor
  · exact fun h => (entryCovers_iff _ _ _).mp (List.find?_some (p := fun i : Fin 128 => entryCovers t[i] route c) h)
  · intro hi
    cases h : lookupStage t route c with
    | none =>
      have := List.find?_eq_none.mp h i (List.mem_finRange i)
      exact absurd ((entryCovers_iff _ _ _).mpr hi) this
    | some j =>
      have hj := (entryCovers_iff _ _ _).mp (List.find?_some (p := fun i : Fin 128 => entryCovers t[i] route c) h)
      rw [covers_unique ht hj hi]

theorem lookupStage_eq_none_iff {t : SectionTable} (ht : firstBadSection t = none) (route : Byte) (c : Half) :
    lookupStage t route c = none ↔ ∀ i : Fin 128, ¬ Covers t[i] route c := by
  simp only [Option.eq_none_iff_forall_ne_some, ne_eq, lookupStage_eq_some_iff ht]

/-- Settles O4: each stage finds the one entry of its tag that covers the chainage. -/
theorem lookupPrefersRouteEntry : Obligations.LookupPrefersRouteEntry := by
  intro t route c ht
  refine ⟨fun i => ?_, ?_, fun _ => rfl⟩
  · rw [lookupSection, Option.or_eq_some_iff, lookupStage_eq_some_iff ht, lookupStage_eq_some_iff ht,
      lookupStage_eq_none_iff ht, and_comm]
  · rw [lookupSection, Option.or_eq_none_iff, lookupStage_eq_none_iff ht, lookupStage_eq_none_iff ht, forall_and]

end Sys2Proof.Machine
end

section
/-! RESTART taking effect (R178): the OFF commands, the RESTART cut and the notice on an emptied part. -/

namespace Sys2Proof.Machine

/-! ### OFF commands behind a waiting cut (R130, R151, R156) -/

/-- R156: a change of the lanes that leaves them non-empty as they were keeps the hold timer. -/
theorem holdTimer_keeps {d : Dec} {after : Lanes} (setting : Nat) (hb : lanesNonEmpty d.lanes = true)
    (ha : lanesNonEmpty after = true) (hh : d.held = false → d.tHeld = none) :
    holdTimer d setting after = d.tHeld := by
  cases h : d.held with
  | false => simp [holdTimer, h, hh h]
  | true => simp [holdTimer, h, hb, ha]

theorem lanesNonEmpty_of_cut {l : Lanes} (h : l.cut.isSome = true) : lanesNonEmpty l = true := by
  simp [lanesNonEmpty, lane0NonEmpty, h]

/-- Commands that join the lane 2 slots at their tail. -/
def joinSlots (l : List (LoadIx × Frame)) (s : State) : State :=
  { s with dec.lanes.slots := s.dec.lanes.slots ++ l }

theorem joinSlots_joinSlots (l m : List (LoadIx × Frame)) (s : State) :
    joinSlots m (joinSlots l s) = joinSlots (l ++ m) s := by
  simp [joinSlots]

/-- The OFF commands of the loads among these whose entries are valid (R130). -/
def offCommands (s : State) (l : List LoadIx) : List (LoadIx × Frame) :=
  (l.filter (fun i => (auxEntry s i).valid)).map (fun i => (i, offCommand s (auxEntry s i) i))

theorem offCommands_congr {s t : State} (ha : t.axs.active = s.axs.active) (hs : t.strap = s.strap) (l : List LoadIx) :
    offCommands t l = offCommands s l := by
  simp only [offCommands, auxEntry, offCommand, built, partNode, ha, hs]

/-- R151: a command for a load whose slot is free, behind a waiting cut frame. -/
theorem commandLoad_off_behind_cut {s : State} {i : LoadIx} (hi : ∀ x ∈ s.dec.lanes.slots, x.1 ≠ i)
    (hc : s.dec.lanes.cut.isSome = true) (hh : s.dec.held = false → s.dec.tHeld = none) :
    commandLoad i false s = joinSlots [(i, offCommand s (auxEntry s i) i)] s := by
  have hslots : s.dec.lanes.slots.filter (fun x => decide (x.1 ≠ i)) = s.dec.lanes.slots :=
    List.filter_eq_self.mpr fun x hx => decide_eq_true (hi x hx)
  have hcommand : auxCommand s (auxEntry s i).node i false = offCommand s (auxEntry s i) i := rfl
  rw [commandLoad, hcommand, placeCommand, changeLanes, holdTimer_keeps _ (lanesNonEmpty_of_cut hc)
    (lanesNonEmpty_of_cut (by exact hc)) hh, hslots, joinSlots]

/-- R130: the walk over some loads commands OFF those with a valid entry, in order. -/
theorem commandOff_walk (l : List LoadIx) (hl : l.Nodup) (s : State)
    (hs : ∀ x ∈ s.dec.lanes.slots, x.1 ∉ l) (hc : s.dec.lanes.cut.isSome = true)
    (hh : s.dec.held = false → s.dec.tHeld = none) :
    l.foldl (fun t i => if (auxEntry t i).valid then commandLoad i false t else t) s =
      joinSlots (offCommands s l) s := by
  induction l generalizing s with
  | nil => simp [joinSlots, offCommands]
  | cons i rest ih =>
    obtain ⟨hi, hrest⟩ := List.nodup_cons.mp hl
    have hfree : ∀ x ∈ s.dec.lanes.slots, x.1 ∉ rest := fun x hx hm => hs x hx (List.mem_cons_of_mem _ hm)
    rw [List.foldl_cons]
    cases hv : (auxEntry s i).valid with
    | false =>
      have hskip : offCommands s (i :: rest) = offCommands s rest := by simp [offCommands, hv]
      rw [if_neg (by simp), ih hrest s hfree hc hh, hskip]
    | true =>
      have htake : offCommands s (i :: rest) = [(i, offCommand s (auxEntry s i) i)] ++ offCommands s rest := by
        simp [offCommands, hv]
      rw [if_pos rfl, commandLoad_off_behind_cut (fun x hx he => hs x hx (he ▸ List.mem_cons_self)) hc hh,
        ih hrest (joinSlots [(i, offCommand s (auxEntry s i) i)] s) ?_ hc hh, htake, ← joinSlots_joinSlots]
      · rfl
      · intro x hx
        rcases List.mem_append.mp hx with hx | hx
        · exact hfree x hx
        · rw [List.mem_singleton.mp hx]
          exact hi

/-! ### The values of RESTART -/

/-- R130: the loads at RESTART, one by one. -/
theorem restartLoads_eq (s : State) :
    Vector.zipWith restartLoad s.axs.active s.axs.loads = Vector.ofFn fun i : LoadIx =>
      { LoadRec.reset with
        minOff := if (loadRec s i).state = .on then startMin (auxEntry s i).minOff.toNat else (loadRec s i).minOff } := by
  ext i hi : 1
  rw [Vector.getElem_zipWith, Vector.getElem_ofFn]
  rfl

/-- Every block at its restart values, before the notice, the cut and the OFF commands (R17, R41, R55, R70, R88, R104, R130,
R145, R160, R179). -/
def restartValues (s : State) : State :=
  restartMge (restartPorts (restartCores (restartAxs (restartPli (restartPwu (restartSct s))))))

theorem placeNotice_restartValues (payload : List Byte) (s : State) :
    placeNotice payload (restartValues s) =
      { restartValues s with upi.groupB := [.notice (built s 7 (reportNode s.mge.params) payload)] } := rfl

/-- R96, R104, R156: the RESTART cut goes into empty lanes, and under a hold the hold timer starts. -/
def restartCutPlaced (s : State) : State := requestCut .restart (placeNotice [8] (restartValues s))

/-- The lanes at RESTART: the cut frame alone. -/
def restartLanes (s : State) : Lanes :=
  { Lanes.empty with cut := some (built s 0 (inverterNode s.mge.params) [0, 0, 3]) }

theorem holdTimer_restartValues (s : State) :
    holdTimer (restartValues s).dec (tHeld s.mge.params) (restartLanes s) =
      if s.dec.held then some (tHeld s.mge.params) else none := by
  have hl : lanesNonEmpty (restartLanes s) = true := rfl
  simp only [holdTimer, hl, and_true]
  rfl

theorem restartCutPlaced_eq (s : State) :
    restartCutPlaced s = { restartValues s with
      upi.groupB := [.notice (built s 7 (reportNode s.mge.params) [8])]
      tau.cutWaiting := some .restart
      dec.lanes := restartLanes s
      dec.tHeld := if s.dec.held then some (tHeld s.mge.params) else none } := by
  rw [restartCutPlaced, placeNotice_restartValues, ← holdTimer_restartValues]
  rfl

theorem restartAll_eq (s : State) :
    restartAll s = joinSlots (offCommands s (List.finRange 16)) (restartCutPlaced s) := by
  have hheld : (restartCutPlaced s).dec.held = false → (restartCutPlaced s).dec.tHeld = none := by
    intro h
    rw [restartCutPlaced_eq]
    exact if_neg (by rw [show s.dec.held = false from h]; decide)
  have hwalk : commandAllOff (restartCutPlaced s) = joinSlots (offCommands (restartCutPlaced s) (List.finRange 16))
      (restartCutPlaced s) := by
    rw [commandAllOff, commandOff_walk _ (List.nodup_finRange 16) _ ?_ ?_ hheld] <;> rw [restartCutPlaced_eq]
    · exact fun _ hx => nomatch hx
    · rfl
  have hoff := offCommands_congr (s := s) (t := restartCutPlaced s) (by rw [restartCutPlaced_eq]; rfl)
    (by rw [restartCutPlaced_eq]; rfl) (List.finRange 16)
  rw [hoff] at hwalk
  exact hwalk

/-- Settles O41: the cut is requested on emptied lanes, and the OFF commands join the slots behind it. -/
theorem restartTakesEffect : Obligations.RestartTakesEffect := by
  intro tx s htx
  refine ⟨fun h => ?_, fun h => ?_⟩
  · simp [exec, execUpstreamTxEnd, htx, h]
  · intro p view fresh none_ record load
    have hexec : exec .upstreamTxEnd s = .next (restartAll { s with upi.sending := none }) := by
      simp [exec, execUpstreamTxEnd, htx, h]
    rw [hexec, restartAll_eq, restartCutPlaced_eq]
    simp only [restartValues, restartMge, restartPorts, restartCores, restartAxs, restartLoads_eq]
    rfl

end Sys2Proof.Machine
end

section
/-! Table loading: how a taken request is answered, and TABLE_OPEN and TABLE_WRITE case by case. -/

namespace Sys2Proof.Machine

/-! ### Requests that are taken (R164) -/

/-- Taking a request changes the request queue alone. -/
theorem taken_frame {code : ReqCode} {q : Request} {s s1 : State} (h : Taken code q s s1) :
    ∃ queue, s1 = { s with mge.queue := queue } := by
  obtain ⟨-, -, -, rfl | ⟨e, -, -, -, -, rfl⟩⟩ := takeRequest_spec _ _ _ _ h
  · exact ⟨s1.mge.queue, rfl⟩
  · exact ⟨_, rfl⟩

/-- A taken request that is not over-length is answered with what its body says. -/
theorem answered_of_body {code : ReqCode} {q : Request} {s s1 after : State} {body : State → State × Reply}
    {status : Status} {fields : List Byte} (hexec : exec (requestCmd code q) s = .next (runRequest code q body s))
    (ho : q.overLength = false) (ht : Taken code q s s1)
    (hb : body s1 = (after, { status := status, fields := fields })) : Answered code q s status fields after := by
  rw [Answered, hexec, runRequest, show takeRequest _ q s = some s1 from ht]
  simp [ho, hb]

/-! ### Table numbers (R189) -/

@[simp] theorem tableOf_tableCode (t : TableId) : tableOf (tableCode t) = some t := by cases t <;> rfl

theorem tableOf_eq_none {c : Byte} (h : 4 < c.toNat) : tableOf c = none := by
  revert c; decide

theorem tableBody_tableCode (t : TableId) (act : TableId → State → State × Reply) (s : State) :
    tableBody [tableCode t] act s = act t s := by simp [tableBody]

/-- R165: the fields of a request that names a table alone. -/
theorem tableBody_malformed {args : List Byte} (h : args.length ≠ 1 ∨ ∃ c ∈ args.head?, 4 < c.toNat)
    (act : TableId → State → State × Reply) (s : State) : tableBody args act s = (s, plain .badField) := by
  unfold tableBody
  split
  · rename_i c
    have hc : 4 < c.toNat := by simpa using h
    rw [tableOf_eq_none hc]
  · rfl

theorem lockCovers_iff (t : TableId) : lockCovers t = true ↔ t ≠ .sections ∧ t ≠ .aux := by cases t <;> simp [lockCovers]

/-! ### TABLE_OPEN (R169) -/

theorem openTableFor_busy {t : TableId} {source : Node} {s : State} (h : s.mge.openTable ≠ none) :
    openTableFor t source s = (s, plain .busy) := by
  simp [openTableFor, Option.isSome_iff_ne_none.mpr h]

theorem openTableFor_locked {t : TableId} {source : Node} {s : State} (h : s.mge.openTable = none)
    (hl : s.mge.lock = true ∧ t ≠ .sections ∧ t ≠ .aux) : openTableFor t source s = (s, plain .locked) := by
  simp [openTableFor, h, hl.1, (lockCovers_iff t).mpr hl.2]

theorem openTableFor_pending {t : TableId} {source : Node} {s : State} (h : s.mge.openTable = none)
    (hl : ¬ (s.mge.lock = true ∧ t ≠ .sections ∧ t ≠ .aux)) (hp : t = .sections ∧ s.sct.pendingTbl ≠ none) :
    openTableFor t source s = (s, plain .busy) := by
  obtain ⟨rfl, hp⟩ := hp
  simp [openTableFor, h, lockCovers, Option.isSome_iff_ne_none.mpr hp]

theorem openTableFor_ok {t : TableId} {source : Node} {s : State} (h : s.mge.openTable = none)
    (hl : ¬ (s.mge.lock = true ∧ t ≠ .sections ∧ t ≠ .aux)) (hp : ¬ (t = .sections ∧ s.sct.pendingTbl ≠ none)) :
    openTableFor t source s = ({ copyToShadow t s with
      mge.openTable := some { table := t, owner := source, tOpen := tOpen s.mge.params } }, plain .ok) := by
  have hl' : (lockCovers t && s.mge.lock) = false := by
    rw [Bool.eq_false_iff]
    intro hc
    obtain ⟨hc, hlock⟩ := Bool.and_eq_true_iff.mp hc
    exact hl ⟨hlock, (lockCovers_iff t).mp hc⟩
  have hp' : (decide (t = .sections) && s.sct.pendingTbl.isSome) = false := by
    rw [Bool.eq_false_iff]
    intro hc
    obtain ⟨ht, hs⟩ := Bool.and_eq_true_iff.mp hc
    exact hp ⟨of_decide_eq_true ht, Option.isSome_iff_ne_none.mp hs⟩
  have hparams : (copyToShadow t s).mge.params = s.mge.params := by cases t <;> rfl
  simp [openTableFor, h, hl', hp', hparams]

/-! ### TABLE_WRITE (R170): the judgements before the entries -/

theorem ownerCheck_notOpen {t : TableId} {source : Node} {s : State}
    (h : s.mge.openTable.map OpenTable.table ≠ some t) : ownerCheck t source s = .notOpen := by
  unfold ownerCheck
  split
  · rfl
  · rename_i o ho
    exact if_pos fun e => h (by rw [ho, ← e]; rfl)

theorem ownerCheck_notOwner {t : TableId} {source : Node} {s : State} {o : OpenTable}
    (h : s.mge.openTable = some o) (ht : o.table = t) (ho : o.owner ≠ source) :
    ownerCheck t source s = .notOwner := by
  simp [ownerCheck, h, ht, ho]

theorem ownerCheck_ok {t : TableId} {source : Node} {s : State} {o : OpenTable}
    (h : s.mge.openTable = some o) (ht : o.table = t) (ho : o.owner = source) :
    ownerCheck t source s = .ok := by
  simp [ownerCheck, h, ht, ho]

theorem restartOpenTimer_open {s : State} {o : OpenTable} (h : s.mge.openTable = some o) :
    restartOpenTimer s = { s with mge.openTable := some { o with tOpen := tOpen s.mge.params } } := by
  simp [restartOpenTimer, h]

/-- R165: the count of a write is 1 to 8, and as many whole entries follow it. -/
def WriteFormed (t : TableId) (count : Byte) (data : List Byte) : Prop :=
  1 ≤ count.toNat ∧ count.toNat ≤ 8 ∧ data.length = count.toNat * tableEntryBytes t

theorem writeBody_malformed {args : List Byte} (h : args.length < 3 ∨ ∃ c ∈ args.head?, 4 < c.toNat)
    (source : Node) (s : State) : writeBody source args s = (s, plain .badField) := by
  unfold writeBody
  split
  · rename_i tc start count data
    obtain ⟨c, hc, h4⟩ := h.resolve_left (by simp)
    obtain rfl : tc = c := by simpa using hc
    rw [tableOf_eq_none h4]
  · rfl

theorem writeBody_notFormed {t : TableId} {start count : Byte} {data : List Byte} (h : ¬ WriteFormed t count data)
    (source : Node) (s : State) :
    writeBody source (tableCode t :: start :: count :: data) s = (s, plain .badField) := by
  have hc : count.toNat < 1 ∨ 8 < count.toNat ∨ data.length ≠ count.toNat * tableEntryBytes t := by
    unfold WriteFormed at h; omega
  simp only [writeBody, tableOf_tableCode, if_pos hc]

section Formed

variable {t : TableId} {start count : Byte} {data : List Byte} (h : WriteFormed t count data) (source : Node) (s : State)

include h

theorem not_malformed_of_formed :
    ¬ (count.toNat < 1 ∨ 8 < count.toNat ∨ data.length ≠ count.toNat * tableEntryBytes t) := by
  obtain ⟨h1, h8, hd⟩ := h
  omega

theorem writeBody_notOpen (ho : ownerCheck t source s = .notOpen) :
    writeBody source (tableCode t :: start :: count :: data) s = (s, plain .notOpen) := by
  simp only [writeBody, tableOf_tableCode, if_neg (not_malformed_of_formed h), ho]

theorem writeBody_notOwner (ho : ownerCheck t source s = .notOwner) :
    writeBody source (tableCode t :: start :: count :: data) s = (s, plain .notOwner) := by
  simp only [writeBody, tableOf_tableCode, if_neg (not_malformed_of_formed h), ho]

theorem writeBody_badIndex (ho : ownerCheck t source s = .ok) (hi : tableCapacity t < start.toNat + count.toNat) :
    writeBody source (tableCode t :: start :: count :: data) s = (s, plain .badIndex) := by
  simp only [writeBody, tableOf_tableCode, if_neg (not_malformed_of_formed h), ho, if_pos hi]

theorem writeBody_refused (ho : ownerCheck t source s = .ok) (hi : start.toNat + count.toNat ≤ tableCapacity t)
    (hs : storeWrite t start.toNat count.toNat data s = none) :
    writeBody source (tableCode t :: start :: count :: data) s = (s, plain .badField) := by
  simp only [writeBody, tableOf_tableCode, if_neg (not_malformed_of_formed h), ho, if_neg (Nat.not_lt.mpr hi), hs]

theorem writeBody_stored {s1 : State} (ho : ownerCheck t source s = .ok)
    (hi : start.toNat + count.toNat ≤ tableCapacity t)
    (hs : storeWrite t start.toNat count.toNat data s = some s1) :
    writeBody source (tableCode t :: start :: count :: data) s = (restartOpenTimer s1, plain .ok) := by
  simp only [writeBody, tableOf_tableCode, if_neg (not_malformed_of_formed h), ho, if_neg (Nat.not_lt.mpr hi), hs]

end Formed

/-! ### Entries as bytes (R183, R188) -/

theorem half_be16 (h : Half) : half (h.extractLsb' 8 8) (h.extractLsb' 0 8) = h := by
  exact (BitVec.extractLsb'_append_extractLsb'_eq_extractLsb' (start₁ := 0) (len₁ := 8) (len₂ := 8) rfl).trans
    BitVec.extractLsb'_eq_self

theorem readSectionEntry_bytes (e : SectionEntry) : readSectionEntry (sectionEntryBytes e) = some e := by
  obtain ⟨valid, id, route, start, stop, kind, cap, profile⟩ := e
  cases valid <;> simp [sectionEntryBytes, readSectionEntry, be16, half_be16] <;> decide

theorem readAuxEntry_bytes (e : AuxEntry) : readAuxEntry (auxEntryBytes e) = some e := by
  obtain ⟨valid, node, nominal, priority, minOn, minOff, battery⟩ := e
  cases valid <;> cases battery <;> simp [auxEntryBytes, readAuxEntry, be16, half_be16] <;> decide

theorem readProfileEntry_bytes (e : ProfileEntry) : readProfileEntry (profileEntryBytes e) = some e := by
  simp [profileEntryBytes, readProfileEntry, be16, half_be16]

theorem readParamEntry_bytes (h : Half) : readParamEntry (be16 h) = some h := by
  simp [readParamEntry, be16, half_be16]

/-- Entries of equal size laid end to end are cut into the same entries. -/
theorem chunks_flatMap {α : Type} {k : Nat} {bytes : α → List Byte} (hk : ∀ e, (bytes e).length = k) (es : List α) :
    chunks k es.length (es.flatMap bytes) = es.map bytes := by
  induction es with
  | nil => rfl
  | cons e rest ih =>
    rw [List.length_cons, chunks, List.flatMap_cons, List.take_left' (hk e), List.drop_left' (hk e), ih, List.map_cons]

/-- R170: entries that can all be read and are not refused are stored whole. -/
theorem readAll_bytes {α : Type} {bytes : α → List Byte} {read : List Byte → Option α} {refused : α → Bool}
    (hread : ∀ e, read (bytes e) = some e) (es : List α) :
    readAll read refused (es.map bytes) = if es.any refused then none else some es := by
  induction es with
  | nil => rfl
  | cons e rest ih =>
    simp only [List.map_cons, readAll, hread, ih, List.any_cons]
    by_cases he : refused e = true
    · simp [he]
    · by_cases hr : rest.any refused = true <;> simp [he, hr]

/-- R170: the entries from the start index onward, and the others as they were. -/
theorem storeEntries_getElem {α : Type} {n : Nat} (t : Vector α n) (start : Nat) (es : List α) (j : Fin n) :
    some (storeEntries t start es)[j] =
      if start ≤ j.val ∧ j.val < start + es.length then es[j.val - start]? else some t[j] := by
  induction es generalizing t start with
  | nil => simp [storeEntries]
  | cons e rest ih =>
    rw [storeEntries, ih, List.length_cons]
    rcases Nat.lt_trichotomy j.val start with h | h | h
    · rw [if_neg (by omega), if_neg (by omega)]
      simp [Nat.ne_of_gt h]
    · subst h
      rw [if_neg (by omega), if_pos (by omega)]
      simp
    · have hs : j.val - start = (j.val - (start + 1)) + 1 := by omega
      have hc : (start + 1 ≤ j.val ∧ j.val < start + 1 + rest.length) ↔
          (start ≤ j.val ∧ j.val < start + (rest.length + 1)) := by omega
      rw [hs, List.getElem?_cons_succ]
      simp only [hc]
      simp [Nat.ne_of_lt h]

/-! ### TABLE_WRITE (R170): the entries -/

/-- One table's part of `storeWrite`: how its entries are read and judged, where its shadow stands, and that neither the
request queue nor T_open has a part in it. -/
structure WritesTable {α : Type} {n : Nat} (table : TableId) (bytes : α → List Byte) (refused : α → Bool)
    (shadow : State → Option (Vector α n)) (put : Vector α n → State → State) (read : List Byte → Option α) : Prop where
  length_bytes : ∀ e, (bytes e).length = tableEntryBytes table
  read_bytes   : ∀ e, read (bytes e) = some e
  capacity     : tableCapacity table = n
  store        : ∀ s old start count data, shadow s = some old → storeWrite table start count data s =
    (readAll read refused (chunks (tableEntryBytes table) count data)).map fun es => put (storeEntries old start es) s
  shadow_queue : ∀ s queue, shadow { s with mge.queue := queue } = shadow s
  timer_put    : ∀ v s, restartOpenTimer (put v s) = put v (restartOpenTimer s)

theorem written_of_writesTable {α : Type} {n : Nat} {table : TableId} {bytes : α → List Byte} {refused : α → Bool}
    {shadow : State → Option (Vector α n)} {put : Vector α n → State → State} {read : List Byte → Option α}
    (h : WritesTable table bytes refused shadow put read) : Written table bytes refused shadow put := by
  intro q o start count es old s s1 hover ht ho htab hown hcount h1 h8 hcap hargs hold
  obtain ⟨queue, hs1⟩ := taken_frame ht
  have hold' : shadow s1 = some old := by rw [hs1, h.shadow_queue, hold]
  have ho' : s1.mge.openTable = some o := by rw [hs1, ← ho]
  have hparams : s1.mge.params = s.mge.params := by rw [hs1]
  have hcheck : ownerCheck table q.source s1 = .ok := ownerCheck_ok ho' htab hown
  have hformed : WriteFormed table count (es.flatMap bytes) :=
    ⟨by omega, by omega, by simp [List.length_flatMap, h.length_bytes, hcount]⟩
  have hroom : start.toNat + count.toNat ≤ tableCapacity table := by rw [h.capacity]; omega
  have hstore := h.store s1 old start.toNat count.toNat (es.flatMap bytes) hold'
  rw [hcount, chunks_flatMap h.length_bytes, readAll_bytes h.read_bytes] at hstore
  refine ⟨fun ⟨e, he, hr⟩ => ?_, fun hall => ⟨storeEntries old start.toNat es, storeEntries_getElem _ _ _, ?_⟩⟩
  · rw [if_pos (List.any_eq_true.mpr ⟨e, he, hr⟩), ← hcount] at hstore
    refine answered_of_body rfl hover ht ?_
    rw [hargs]
    exact writeBody_refused hformed _ _ hcheck hroom hstore
  · have hnone : ¬ es.any refused = true := by simpa using hall
    rw [if_neg hnone, ← hcount] at hstore
    refine answered_of_body rfl hover ht ?_
    rw [hargs]
    dsimp only
    rw [writeBody_stored hformed _ _ hcheck hroom hstore, h.timer_put, restartOpenTimer_open ho', ← hparams]
    rfl

theorem sections_writesTable : WritesTable .sections sectionEntryBytes sectionWriteRefused (fun s => s.sct.shadow)
    (fun v s => { s with sct.shadow := some v }) readSectionEntry where
  length_bytes _ := rfl
  read_bytes := readSectionEntry_bytes
  capacity := rfl
  store s old start count data hs := by simp [storeWrite, hs]
  shadow_queue _ _ := rfl
  timer_put _ _ := rfl

theorem aux_writesTable : WritesTable .aux auxEntryBytes auxWriteRefused (fun s => s.axs.shadow)
    (fun v s => { s with axs.shadow := some v }) readAuxEntry where
  length_bytes _ := rfl
  read_bytes := readAuxEntry_bytes
  capacity := rfl
  store s old start count data hs := by simp [storeWrite, hs]
  shadow_queue _ _ := rfl
  timer_put _ _ := rfl

theorem profile_writesTable : WritesTable .profile profileEntryBytes profileWriteRefused (fun s => s.pwu.shadow)
    (fun v s => { s with pwu.shadow := some v }) readProfileEntry where
  length_bytes _ := rfl
  read_bytes := readProfileEntry_bytes
  capacity := rfl
  store s old start count data hs := by simp [storeWrite, hs]
  shadow_queue _ _ := rfl
  timer_put _ _ := rfl

theorem parameter_writesTable : WritesTable .parameter be16 (fun _ => false) (fun s => s.mge.shadow)
    (fun v s => { s with mge.shadow := some v }) readParamEntry where
  length_bytes _ := rfl
  read_bytes := readParamEntry_bytes
  capacity := rfl
  store s old start count data hs := by simp [storeWrite, hs]
  shadow_queue _ _ := rfl
  timer_put _ _ := rfl

theorem classMap_writesTable : WritesTable .classMap (fun c => [c]) (fun _ => false) (fun s => s.dec.shadow)
    (fun v s => { s with dec.shadow := some v }) readClassEntry where
  length_bytes _ := rfl
  read_bytes _ := rfl
  capacity := rfl
  store s old start count data hs := by simp [storeWrite, hs]
  shadow_queue _ _ := rfl
  timer_put _ _ := rfl

/-- Settles O49: each answer is the first judgement of R169 or R170 that applies. -/
theorem tableOpenedAndWritten : Obligations.TableOpenedAndWritten := by
  refine ⟨?opened, ?judged, ?malformed, written_of_writesTable sections_writesTable,
    written_of_writesTable aux_writesTable, written_of_writesTable profile_writesTable,
    written_of_writesTable parameter_writesTable, written_of_writesTable classMap_writesTable⟩
  case opened =>
    intro q table s s1 hover ht hargs locked waits o
    have hbody : ∀ {status after}, openTableFor table q.source s1 = (after, plain status) →
        Answered .tableOpen q s status [] after := fun hb => by
      refine answered_of_body rfl hover ht ?_
      rw [hargs, tableBody_tableCode]
      exact hb
    obtain ⟨queue, rfl⟩ := taken_frame ht
    refine ⟨fun h => hbody (openTableFor_busy h), fun h hl => hbody (openTableFor_locked h hl),
      fun h hl hp => hbody (openTableFor_pending h hl hp), fun h hl hp => hbody ?_⟩
    refine (openTableFor_ok (s := { s with mge.queue := queue }) h hl hp).trans ?_
    cases table <;> rfl
  case judged =>
    intro q table start count data s s1 hover ht hargs formed
    have hbody : ∀ {status}, writeBody q.source (tableCode table :: start :: count :: data) s1 = (s1, plain status) →
        Answered .tableWrite q s status [] s1 := fun hb => by
      refine answered_of_body rfl hover ht ?_
      rw [hargs]
      exact hb
    obtain ⟨queue, rfl⟩ := taken_frame ht
    refine ⟨fun h => hbody (writeBody_notFormed h _ _),
      fun h hn => hbody (writeBody_notOpen h _ _ (ownerCheck_notOpen hn)),
      fun o h ho htab => ⟨fun hown => ?_, fun hown hi => ?_⟩⟩
    · exact hbody (writeBody_notOwner h _ _ (ownerCheck_notOwner ho htab hown))
    · exact hbody (writeBody_badIndex h _ _ (ownerCheck_ok ho htab hown) hi)
  case malformed =>
    intro code q s s1 hover ht h
    rcases h with ⟨rfl | rfl | rfl, hargs⟩ | ⟨rfl, hargs⟩
    · exact answered_of_body rfl hover ht (tableBody_malformed hargs _ _)
    · exact answered_of_body rfl hover ht (tableBody_malformed hargs _ _)
    · exact answered_of_body rfl hover ht (tableBody_malformed hargs _ _)
    · exact answered_of_body rfl hover ht (writeBody_malformed hargs _ _)

end Sys2Proof.Machine
end

section
/-! The orders of R108, R116 and R118: sorting keeps the elements, and commutes with taking some out. -/

namespace Sys2Proof.Machine

section Sorting

variable {α : Type} {before : α → α → Bool}

theorem insertSorted_perm (x : α) (l : List α) : (insertSorted before x l).Perm (x :: l) := by
  induction l with
  | nil => exact .refl _
  | cons y rest ih =>
    unfold insertSorted
    split
    · exact .refl _
    · exact (ih.cons y).trans (.swap x y rest)

theorem sortBy_perm (l : List α) : (sortBy before l).Perm l := by
  have hfold : ∀ acc : List α, (l.foldl (fun acc x => insertSorted before x acc) acc).Perm (acc ++ l) := by
    induction l with
    | nil => intro acc; simp
    | cons x rest ih =>
      intro acc
      exact (ih _).trans (((insertSorted_perm x acc).append_right rest).trans List.perm_middle.symm)
  exact hfold []

theorem mem_sortBy {x : α} {l : List α} : x ∈ sortBy before l ↔ x ∈ l := (sortBy_perm l).mem_iff

theorem nodup_sortBy {l : List α} (h : l.Nodup) : (sortBy before l).Nodup := (sortBy_perm l).nodup_iff.mpr h

/-- Nothing stands before an element that is to come after it. -/
def SortedBy (before : α → α → Bool) (l : List α) : Prop := l.Pairwise fun a b => before b a = false

/-- A strict weak order: what does not come before either of two elements in order does not tell them apart. -/
structure WeakOrder (before : α → α → Bool) : Prop where
  asymm : ∀ x y, before x y = true → before y x = false
  split : ∀ x y z, before x y = true → before x z = true ∨ before z y = true

variable (ho : WeakOrder before)

include ho

theorem insertSorted_sorted (x : α) {l : List α} (hl : SortedBy before l) : SortedBy before (insertSorted before x l) := by
  induction l with
  | nil => simp [insertSorted, SortedBy]
  | cons y rest ih =>
    obtain ⟨hy, hrest⟩ := List.pairwise_cons.mp hl
    unfold insertSorted
    split
    · rename_i hxy
      refine List.pairwise_cons.mpr ⟨fun z hz => ?_, hl⟩
      rcases List.mem_cons.mp hz with rfl | hz
      · exact ho.asymm _ _ hxy
      · rcases ho.split x y z hxy with h | h
        · exact ho.asymm _ _ h
        · rw [hy z hz] at h; cases h
    · rename_i hxy
      refine List.pairwise_cons.mpr ⟨fun z hz => ?_, ih hrest⟩
      rcases List.mem_cons.mp ((insertSorted_perm x rest).mem_iff.mp hz) with rfl | hz
      · simpa using hxy
      · exact hy z hz

omit ho in
theorem insertSorted_of_all {x : α} {l : List α} (h : ∀ y ∈ l, before x y = true) :
    insertSorted before x l = x :: l := by
  cases l with
  | nil => rfl
  | cons y rest => simp [insertSorted, h y List.mem_cons_self]

theorem filter_insertSorted (p : α → Bool) (x : α) {l : List α} (hl : SortedBy before l) :
    (insertSorted before x l).filter p = if p x then insertSorted before x (l.filter p) else l.filter p := by
  induction l with
  | nil => cases hp : p x <;> simp [insertSorted, hp]
  | cons y rest ih =>
    obtain ⟨hy, hrest⟩ := List.pairwise_cons.mp hl
    cases hxy : before x y with
    | true =>
      have hall : ∀ z ∈ (y :: rest).filter p, before x z = true := by
        intro z hz
        rcases List.mem_cons.mp (List.mem_filter.mp hz).1 with rfl | hz
        · exact hxy
        · rcases ho.split x y z hxy with h | h
          · exact h
          · rw [hy z hz] at h; cases h
      rw [insertSorted_of_all hall, insertSorted, if_pos hxy]
      cases hp : p x <;> simp [hp]
    | false =>
      rw [insertSorted, if_neg (by simp [hxy])]
      cases hpy : p y with
      | false => simp [hpy, ih hrest]
      | true =>
        rw [List.filter_cons_of_pos hpy, ih hrest, List.filter_cons_of_pos hpy]
        cases hp : p x <;> simp [insertSorted, hxy]

/-- Sorting and taking elements out commute. -/
theorem filter_sortBy (p : α → Bool) (l : List α) : (sortBy before l).filter p = sortBy before (l.filter p) := by
  have hfold : ∀ acc, SortedBy before acc →
      (l.foldl (fun acc x => insertSorted before x acc) acc).filter p =
        (l.filter p).foldl (fun acc x => insertSorted before x acc) (acc.filter p) := by
    induction l with
    | nil => intro acc _; rfl
    | cons x rest ih =>
      intro acc hacc
      rw [List.foldl_cons, ih _ (insertSorted_sorted ho x hacc), filter_insertSorted ho p x hacc]
      cases hp : p x <;> simp [hp]
  exact hfold [] List.Pairwise.nil

end Sorting

/-- R116, R118: the order in which loads are shed. -/
theorem shedBefore_weakOrder (s : State) : WeakOrder (shedBefore s) where
  asymm x y h := by
    simp only [shedBefore, Bool.or_eq_true, Bool.and_eq_true, decide_eq_true_eq] at h
    simp only [shedBefore, Bool.or_eq_false_iff, Bool.and_eq_false_iff, decide_eq_false_iff_not]
    omega
  split x y z h := by
    simp only [shedBefore, Bool.or_eq_true, Bool.and_eq_true, decide_eq_true_eq] at h ⊢
    omega

theorem mem_onLoads {s : State} {i : LoadIx} : i ∈ onLoads s ↔ (loadRec s i).state = .on := by
  simp [onLoads, mem_sortBy]

theorem nodup_onLoads (s : State) : (onLoads s).Nodup := nodup_sortBy ((List.nodup_finRange 16).filter _)

theorem mem_waitingList {s : State} {i : LoadIx} : i ∈ waitingList s ↔ i ∈ s.axs.joinOrder := mem_sortBy

theorem nodup_waitingList {s : State} (h : s.axs.joinOrder.Nodup) : (waitingList s).Nodup := nodup_sortBy h

end Sys2Proof.Machine
end

section
/-! What a walk over loads leaves: the parts of the state it may change, its commands in lane 2, its notices. -/

namespace Sys2Proof.Machine

/-! ### `OnlyAux` as a relation, and what it keeps -/

theorem OnlyAux.refl (s : State) : OnlyAux s s := ⟨rfl, rfl⟩

theorem OnlyAux.trans {s t u : State} (h : OnlyAux s t) (k : OnlyAux t u) : OnlyAux s u := by
  obtain ⟨hstate, haxs⟩ := h
  obtain ⟨kstate, kaxs⟩ := k
  refine ⟨kstate.trans ?_, kaxs.trans ?_⟩
  · rw [hstate]
  · rw [haxs]

section Kept

variable {s t : State} (h : OnlyAux s t)

include h

theorem OnlyAux.ms : t.ms = s.ms := (congrArg State.ms h.1).trans rfl
theorem OnlyAux.strap : t.strap = s.strap := (congrArg State.strap h.1).trans rfl
theorem OnlyAux.mge : t.mge = s.mge := (congrArg State.mge h.1).trans rfl
theorem OnlyAux.active : t.axs.active = s.axs.active := (congrArg Axs.active h.2).trans rfl
theorem OnlyAux.record : t.axs.record = s.axs.record := (congrArg Axs.record h.2).trans rfl

theorem OnlyAux.auxEntry (i : LoadIx) : auxEntry t i = auxEntry s i := by rw [Machine.auxEntry, h.active]; rfl
theorem OnlyAux.nominal (i : LoadIx) : nominal t i = nominal s i := by rw [Machine.nominal, h.auxEntry]; rfl
theorem OnlyAux.priority (i : LoadIx) : priority t i = priority s i := by rw [Machine.priority, h.auxEntry]; rfl

theorem OnlyAux.permitted (i : LoadIx) : permitted t i = permitted s i := by
  simp only [Machine.permitted, h.record, h.auxEntry, h.priority, h.mge]

theorem OnlyAux.offCommand (e : AuxEntry) (i : LoadIx) : offCommand t e i = offCommand s e i := by
  simp only [Machine.offCommand, built, partNode, h.strap]

theorem OnlyAux.onCommand (i : LoadIx) : onCommand t i = onCommand s i := by
  simp only [Machine.onCommand, built, partNode, h.strap, h.auxEntry]

end Kept

/-! ### Notices one after another -/

@[simp] theorem placeAll_mge (l : List (List Byte)) (s : State) : (placeAll l s).mge = s.mge := by
  induction l generalizing s with
  | nil => rfl
  | cons p rest ih => rw [placeAll, List.foldl_cons]; exact (ih _).trans (placeNotice_mge _ _)

@[simp] theorem placeAll_strap (l : List (List Byte)) (s : State) : (placeAll l s).strap = s.strap := by
  induction l generalizing s with
  | nil => rfl
  | cons p rest ih => rw [placeAll, List.foldl_cons]; exact (ih _).trans (placeNotice_strap _ _)

theorem placeAll_append (l m : List (List Byte)) (s : State) : placeAll (l ++ m) s = placeAll m (placeAll l s) :=
  List.foldl_append

theorem placeAll_upi_congr (l : List (List Byte)) {s t : State} (hu : t.upi = s.upi) (hm : t.mge = s.mge)
    (hs : t.strap = s.strap) : (placeAll l t).upi = (placeAll l s).upi := by
  induction l generalizing s t with
  | nil => exact hu
  | cons p rest ih => exact ih (placeNotice_upi_congr p hu hm hs) (by simp [hm]) (by simp [hs])

/-! ### Walks -/

/-- Outside the load records and the waiting list: the commands placed, each load's in place of its waiting one and in
order at the tail of lane 2; the notices placed; and nothing else changed, nor handed over. -/
structure Walked (s t : State) (commands : List (LoadIx × Frame)) (notices : List (List Byte)) : Prop where
  slots  : t.dec.lanes.slots =
    s.dec.lanes.slots.filter (fun x => decide (x.1 ∉ commands.map Prod.fst)) ++ commands
  upi    : t.upi = (placeAll notices s).upi
  only   : OnlyAux s t
  handed : t.handed = s.handed

theorem Walked.refl (s : State) : Walked s s [] [] where
  slots := by simp
  upi := rfl
  only := .refl s
  handed := rfl

/-- Two walks that command different loads, one after the other. -/
theorem Walked.trans {s t u : State} {c d : List (LoadIx × Frame)} {m n : List (List Byte)} (h : Walked s t c m)
    (k : Walked t u d n) (hd : ∀ x ∈ c, x.1 ∉ d.map Prod.fst) : Walked s u (c ++ d) (m ++ n) where
  slots := by
    have hc : c.filter (fun x => decide (x.1 ∉ d.map Prod.fst)) = c :=
      List.filter_eq_self.mpr fun x hx => decide_eq_true (hd x hx)
    rw [k.slots, h.slots, List.filter_append, hc, List.filter_filter, List.append_assoc]
    congr 1
    refine List.filter_congr fun x _ => ?_
    simp only [List.map_append, List.mem_append, not_or, Bool.decide_and, Bool.and_comm]
  upi := by
    rw [k.upi, placeAll_append]
    exact placeAll_upi_congr n h.upi (by rw [h.only.mge, placeAll_mge]) (by rw [h.only.strap, placeAll_strap])
  only := h.only.trans k.only
  handed := k.handed.trans h.handed

/-- A walk that commands nothing comes first. -/
theorem Walked.trans_silent {s t u : State} {d : List (LoadIx × Frame)} {m n : List (List Byte)} (h : Walked s t [] m)
    (k : Walked t u d n) : Walked s u d (m ++ n) :=
  h.trans k (fun _ hx => nomatch hx)

/-! ### Single steps -/

theorem walked_setLoad (i : LoadIx) (r : LoadRec) (s : State) : Walked s (setLoad i r s) [] [] := by
  constructor
  · simp
  · rfl
  · exact ⟨rfl, rfl⟩
  · rfl

theorem walked_joinWaiting (i : LoadIx) (s : State) : Walked s (joinWaiting i s) [] [] := by
  constructor
  · simp
  · rfl
  · exact ⟨rfl, rfl⟩
  · rfl

theorem walked_leaveWaiting (i : LoadIx) (s : State) : Walked s (leaveWaiting i s) [] [] := by
  constructor
  · simp
  · rfl
  · exact ⟨rfl, rfl⟩
  · rfl

theorem walked_placeCommand (i : LoadIx) (f : Frame) (s : State) : Walked s (placeCommand i f s) [(i, f)] [] := by
  constructor
  · rw [placeCommand_slots]; simp
  · rfl
  · exact ⟨rfl, rfl⟩
  · rfl

theorem walked_placeNotice (payload : List Byte) (s : State) : Walked s (placeNotice payload s) [] [payload] := by
  constructor
  · simp
  · rfl
  · exact ⟨by rw [placeNotice_frame], by rw [placeNotice_axs]⟩
  · simp

end Sys2Proof.Machine
end

section
/-! One load at a time: what a change of its record, a shed and an admission leave. -/

namespace Sys2Proof.Machine

theorem loadRec_setLoad (i j : LoadIx) (r : LoadRec) (s : State) :
    loadRec (setLoad i r s) j = if j = i then r else loadRec s j := by
  split
  · rename_i h
    rw [h, loadRec_setLoad_same]
  · rename_i h
    exact loadRec_setLoad_other s i j r h

/-! ### Entering a state, leaving ON, joining and leaving the waiting list -/

theorem walked_enterState (i : LoadIx) (new : LoadState) (cause : AuxCause) (s : State) :
    Walked s (enterState i new cause s) []
      [auxStatePayload i (loadStateCode (loadRec s i).state) (loadStateCode new) (auxCauseCode cause)
        s.axs.reservation] :=
  (walked_setLoad i _ s).trans_silent (walked_placeNotice _ _)

@[simp] theorem enterState_axs (i : LoadIx) (new : LoadState) (cause : AuxCause) (s : State) :
    (enterState i new cause s).axs = (setLoad i { loadRec s i with state := new } s).axs := by
  simp [enterState, auxNotice]

theorem loadRec_congr {s t : State} (h : t.axs.loads = s.axs.loads) (j : LoadIx) : loadRec t j = loadRec s j := by
  rw [loadRec, h]; rfl

theorem loadRec_enterState (i j : LoadIx) (new : LoadState) (cause : AuxCause) (s : State) :
    loadRec (enterState i new cause s) j = if j = i then { loadRec s i with state := new } else loadRec s j := by
  rw [loadRec_congr (s := setLoad i { loadRec s i with state := new } s) (by rw [enterState_axs]), loadRec_setLoad]

theorem walked_leaveOn (i : LoadIx) (e : AuxEntry) (s : State) :
    Walked s (leaveOn i e s) [(i, offCommand s e i)] [] := by
  constructor
  · rw [leaveOn, setLoad_dec, placeCommand_slots]
    simp only [List.map_cons, List.map_nil, List.mem_singleton]
    rfl
  · rfl
  · exact ⟨rfl, rfl⟩
  · rfl

theorem loadRec_leaveOn (i j : LoadIx) (e : AuxEntry) (s : State) :
    loadRec (leaveOn i e s) j = if j = i then leftOn e (loadRec s i) else loadRec s j := loadRec_setLoad _ _ _ _

theorem loadRec_joinWaiting (i j : LoadIx) (s : State) :
    loadRec (joinWaiting i s) j = if j = i then { loadRec s i with joined := some s.ms } else loadRec s j :=
  loadRec_setLoad _ _ _ _

theorem loadRec_leaveWaiting (i j : LoadIx) (s : State) :
    loadRec (leaveWaiting i s) j = if j = i then { loadRec s i with joined := none } else loadRec s j :=
  loadRec_setLoad _ _ _ _

/-! ### A shed (R117) -/

theorem walked_shedLoad (i : LoadIx) (cause : AuxCause) (s : State) :
    Walked s (shedLoad i cause s) [(i, offCommand s (auxEntry s i) i)]
      [auxStatePayload i (loadStateCode (loadRec s i).state) 3 (auxCauseCode cause)
        (s.axs.reservation - nominal s i)] := by
  have hstate : (loadRec (joinWaiting i (leaveOn i (auxEntry s i) s)) i).state = (loadRec s i).state := by
    rw [loadRec_joinWaiting, if_pos rfl, loadRec_leaveOn, if_pos rfl]; rfl
  have hleave := (walked_leaveOn i (auxEntry s i) s).trans (walked_joinWaiting i _) (fun _ _ hx => nomatch hx)
  have henter := walked_enterState i .shed cause (joinWaiting i (leaveOn i (auxEntry s i) s))
  rw [hstate] at henter
  exact hleave.trans henter (fun _ _ hx => nomatch hx)

theorem loadRec_shedLoad (i j : LoadIx) (cause : AuxCause) (s : State) :
    loadRec (shedLoad i cause s) j = if j = i then
      { leftOn (auxEntry s i) (loadRec s i) with state := .shed, joined := some s.ms } else loadRec s j := by
  split
  · rename_i h
    rw [h, shedLoad_record]
  · rename_i h
    rw [shedLoad, loadRec_enterState, if_neg h, loadRec_joinWaiting, if_neg h, loadRec_leaveOn, if_neg h]

@[simp] theorem shedLoad_joinOrder (i : LoadIx) (cause : AuxCause) (s : State) :
    (shedLoad i cause s).axs.joinOrder = s.axs.joinOrder ++ [i] := by
  rw [shedLoad, enterState_axs]; rfl

@[simp] theorem shedLoad_reservation (i : LoadIx) (cause : AuxCause) (s : State) :
    (shedLoad i cause s).axs.reservation = s.axs.reservation - nominal s i := by
  rw [shedLoad, enterState_axs]; rfl

@[simp] theorem shedLoad_orderCount (i : LoadIx) (cause : AuxCause) (s : State) :
    (shedLoad i cause s).axs.orderCount = s.axs.orderCount := by
  rw [shedLoad, enterState_axs]; rfl

/-! ### An admission (R115) -/

theorem walked_admitLoad (i : LoadIx) (s : State) :
    Walked s (admitLoad i s) [(i, onCommand s i)]
      [auxStatePayload i (loadStateCode (loadRec s i).state) 2 3 (s.axs.reservation + nominal s i)] := by
  obtain ⟨-, -, -, -, hhanded, hslots, hupi⟩ := admitLoad_spec i s
  constructor
  · rw [hslots]; simp
  · exact hupi
  · refine OnlyAux.trans (t := commandLoad i true _) ?_ (walked_enterState i .on .admitted _).only
    exact OnlyAux.trans ⟨rfl, rfl⟩ (walked_placeCommand i _ _).only
  · exact hhanded

theorem loadRec_admitLoad (i j : LoadIx) (s : State) :
    loadRec (admitLoad i s) j = if j = i then
      { loadRec s i with
        state := .on, joined := none, admitted := some s.ms, order := some (s.axs.orderCount + 1),
        minOn := startMin (auxEntry s i).minOn.toNat } else loadRec s j := by
  split
  · rename_i h
    rw [h, admitLoad_record]
  · rename_i h
    exact (admitLoad_spec i s).1 j h

end Sys2Proof.Machine
end

section
/-! Forced exclusion and budget shed (R116 to R118): the loads that the plan names are shed in its order, and what remains
ON is within the record. -/

namespace Sys2Proof.Machine

/-! ### Shedding the loads of a plan -/

/-- The loads of a plan shed one after another. -/
def shedAll (plan : List (LoadIx × AuxCause)) (s : State) : State := plan.foldl (fun t x => shedLoad x.1 x.2 t) s

theorem shedAll_cons (x : LoadIx × AuxCause) (plan : List (LoadIx × AuxCause)) (s : State) :
    shedAll (x :: plan) s = shedAll plan (shedLoad x.1 x.2 s) := rfl

theorem shedAll_append (p q : List (LoadIx × AuxCause)) (s : State) : shedAll (p ++ q) s = shedAll q (shedAll p s) :=
  List.foldl_append

theorem map_fst_commands (l : List LoadIx) (f : LoadIx → Frame) : (l.map fun j => (j, f j)).map Prod.fst = l := by
  rw [List.map_map]
  exact List.map_id l

/-- A plan with its causes as the notices carry them. -/
def planCodes (plan : List (LoadIx × AuxCause)) : List (LoadIx × Byte) := plan.map fun x => (x.1, auxCauseCode x.2)

theorem map_fst_planCodes (plan : List (LoadIx × AuxCause)) : (planCodes plan).map Prod.fst = plan.map Prod.fst := by
  simp [planCodes, Function.comp_def]

theorem only_shedLoad (i : LoadIx) (cause : AuxCause) (s : State) : OnlyAux s (shedLoad i cause s) :=
  (walked_shedLoad i cause s).only

theorem only_shedAll (plan : List (LoadIx × AuxCause)) (s : State) : OnlyAux s (shedAll plan s) := by
  induction plan generalizing s with
  | nil => exact .refl s
  | cons x rest ih => exact (only_shedLoad x.1 x.2 s).trans (ih _)

theorem nominalSum_congr {s t : State} (h : OnlyAux s t) (l : List LoadIx) : nominalSum t l = nominalSum s l := by
  simp only [nominalSum, funext h.nominal]

theorem nominalSum_cons (s : State) (i : LoadIx) (l : List LoadIx) : nominalSum s (i :: l) = nominal s i + nominalSum s l :=
  List.sum_cons

theorem nominalSum_append (s : State) (l m : List LoadIx) : nominalSum s (l ++ m) = nominalSum s l + nominalSum s m := by
  simp [nominalSum]

theorem shedNotices_congr {s t : State} (h : OnlyAux s t) (plan : List (LoadIx × Byte)) (r : Nat) :
    shedNotices r t plan = shedNotices r s plan := by
  induction plan generalizing r with
  | nil => rfl
  | cons x rest ih => simp only [shedNotices, h.nominal, ih]

theorem loadRec_shedAll (plan : List (LoadIx × AuxCause)) (s : State) (hn : (plan.map Prod.fst).Nodup) (j : LoadIx) :
    loadRec (shedAll plan s) j = if j ∈ plan.map Prod.fst then
      { leftOn (auxEntry s j) (loadRec s j) with state := .shed, joined := some s.ms } else loadRec s j := by
  induction plan generalizing s with
  | nil => simp [shedAll]
  | cons x rest ih =>
    obtain ⟨hx, hrest⟩ := List.nodup_cons.mp hn
    rw [shedAll_cons, ih _ hrest, loadRec_shedLoad, (only_shedLoad x.1 x.2 s).auxEntry, (only_shedLoad x.1 x.2 s).ms]
    by_cases hj : j = x.1
    · subst hj
      simp [hx]
    · have hmem : j ∈ (x :: rest).map Prod.fst ↔ j ∈ rest.map Prod.fst := by
        rw [List.map_cons, List.mem_cons, or_iff_right hj]
      simp only [if_neg hj, hmem]

theorem joinOrder_shedAll (plan : List (LoadIx × AuxCause)) (s : State) :
    (shedAll plan s).axs.joinOrder = s.axs.joinOrder ++ plan.map Prod.fst := by
  induction plan generalizing s with
  | nil => simp [shedAll]
  | cons x rest ih => rw [shedAll_cons, ih, shedLoad_joinOrder, List.append_assoc]; rfl

theorem reservation_shedAll (plan : List (LoadIx × AuxCause)) (s : State) :
    (shedAll plan s).axs.reservation = s.axs.reservation - nominalSum s (plan.map Prod.fst) := by
  induction plan generalizing s with
  | nil => rfl
  | cons x rest ih =>
    rw [shedAll_cons, ih, shedLoad_reservation, nominalSum_congr (only_shedLoad x.1 x.2 s), List.map_cons, nominalSum_cons,
      Nat.sub_sub]

theorem orderCount_shedAll (plan : List (LoadIx × AuxCause)) (s : State) :
    (shedAll plan s).axs.orderCount = s.axs.orderCount := by
  induction plan generalizing s with
  | nil => rfl
  | cons x rest ih => rw [shedAll_cons, ih, shedLoad_orderCount]

/-- R117, R126, R129: the OFF commands and the notices of a plan of ON loads. -/
theorem walked_shedAll (plan : List (LoadIx × AuxCause)) (s : State) (hn : (plan.map Prod.fst).Nodup)
    (hon : ∀ i ∈ plan.map Prod.fst, (loadRec s i).state = .on) :
    Walked s (shedAll plan s) ((plan.map Prod.fst).map fun j => (j, offCommand s (auxEntry s j) j))
      (shedNotices s.axs.reservation s (planCodes plan)) := by
  induction plan generalizing s with
  | nil => exact .refl s
  | cons x rest ih =>
    obtain ⟨hx, hrest⟩ := List.nodup_cons.mp hn
    have ho := only_shedLoad x.1 x.2 s
    have hon' : ∀ i ∈ rest.map Prod.fst, (loadRec (shedLoad x.1 x.2 s) i).state = .on := fun i hi => by
      rw [loadRec_shedLoad, if_neg (fun e : i = x.1 => hx (e ▸ hi))]
      exact hon i (List.mem_cons_of_mem _ hi)
    have hhead := walked_shedLoad x.1 x.2 s
    rw [hon x.1 List.mem_cons_self] at hhead
    have htail := ih _ hrest hon'
    rw [shedNotices_congr ho, shedLoad_reservation] at htail
    simp only [ho.auxEntry, ho.offCommand] at htail
    exact hhead.trans htail (fun y hy => by rw [map_fst_commands, List.mem_singleton.mp hy]; exact hx)

theorem shedBy_shedAll (plan : List (LoadIx × AuxCause)) (s : State) (hn : (plan.map Prod.fst).Nodup)
    (hon : ∀ i ∈ plan.map Prod.fst, (loadRec s i).state = .on) : ShedBy (planCodes plan) s (shedAll plan s) := by
  obtain ⟨hslots, hupi, honly, hhanded⟩ := walked_shedAll plan s hn hon
  unfold ShedBy
  simp only [map_fst_planCodes]
  refine ⟨loadRec_shedAll plan s hn, joinOrder_shedAll plan s, reservation_shedAll plan s, orderCount_shedAll plan s, ?_,
    hupi, honly, hhanded⟩
  rw [hslots, map_fst_commands]

/-- The loads left ON, in their order. -/
theorem onLoads_shedAll (plan : List (LoadIx × AuxCause)) (s : State) (hn : (plan.map Prod.fst).Nodup) :
    onLoads (shedAll plan s) = (onLoads s).filter fun i => decide (i ∉ plan.map Prod.fst) := by
  have hrec := loadRec_shedAll plan s hn
  have horder : ∀ i, (loadRec (shedAll plan s) i).order = (loadRec s i).order := fun i => by
    rw [hrec]; split <;> rfl
  have hbefore : shedBefore (shedAll plan s) = shedBefore s := by
    funext a b
    simp only [shedBefore, (only_shedAll plan s).priority, horder]
  unfold onLoads
  rw [hbefore, filter_sortBy (shedBefore_weakOrder s), List.filter_filter]
  congr 1
  refine List.filter_congr fun i _ => ?_
  rw [hrec]
  by_cases hi : i ∈ plan.map Prod.fst <;> simp [hi]

/-! ### The sweeps and the exclusion as plans -/

/-- The loads given, all for one cause. -/
def forCause (cause : AuxCause) (l : List LoadIx) : List (LoadIx × AuxCause) := l.map fun i => (i, cause)

@[simp] theorem map_fst_forCause (cause : AuxCause) (l : List LoadIx) : (forCause cause l).map Prod.fst = l := by
  rw [forCause, List.map_map]
  exact List.map_id l

theorem forCause_append (cause : AuxCause) (l m : List LoadIx) :
    forCause cause (l ++ m) = forCause cause l ++ forCause cause m := List.map_append

/-- R118: what is not permitted before the walk is what the walk sheds. -/
theorem foldl_excludeLoad (l : List LoadIx) (s : State) :
    l.foldl excludeLoad s = shedAll (forCause .excluded (l.filter fun i => !permitted s i)) s := by
  induction l generalizing s with
  | nil => rfl
  | cons i rest ih =>
    rw [List.foldl_cons, excludeLoad]
    cases hp : permitted s i with
    | true => simp [hp, ih]
    | false =>
      have hsame : (fun j => !permitted (shedLoad i .excluded s) j) = fun j => !permitted s j :=
        funext fun j => by rw [(only_shedLoad i .excluded s).permitted]
      rw [if_neg (by simp), ih, hsame, List.filter_cons_of_pos (by simp [hp])]
      rfl

/-- A sweep that sheds a load while R is above the cap, where a test of its record says so. -/
def sweepBy (test : State → LoadIx → Bool) (s : State) (i : LoadIx) : State :=
  if overCap s && test s i then shedLoad i .budgetShed s else s

theorem shedSweep_congr {s t : State} (h : OnlyAux s t) {skip skip' : LoadIx → Bool} {l : List LoadIx}
    (hskip : ∀ i ∈ l, skip' i = skip i) (r : Nat) : shedSweep t skip' r l = shedSweep s skip r l := by
  induction l generalizing r with
  | nil => rfl
  | cons i rest ih =>
    have ih' := ih (fun j hj => hskip j (List.mem_cons_of_mem _ hj))
    simp only [shedSweep, h.record, h.nominal, hskip i List.mem_cons_self, ih']

theorem foldl_sweepBy (test : State → LoadIx → Bool)
    (htest : ∀ s i j, j ≠ i → test (shedLoad i .budgetShed s) j = test s j) (l : List LoadIx) (hl : l.Nodup) (s : State) :
    l.foldl (sweepBy test) s =
      shedAll (forCause .budgetShed (shedSweep s (fun i => !test s i) s.axs.reservation l)) s := by
  induction l generalizing s with
  | nil => rfl
  | cons i rest ih =>
    obtain ⟨hi, hrest⟩ := List.nodup_cons.mp hl
    rw [List.foldl_cons, ih hrest]
    by_cases hc : s.axs.record.auxCap < s.axs.reservation ∧ test s i = true
    · have hstep : sweepBy test s i = shedLoad i .budgetShed s := by simp [sweepBy, overCap, hc]
      have hrest' : shedSweep (shedLoad i .budgetShed s) (fun j => !test (shedLoad i .budgetShed s) j)
          (shedLoad i .budgetShed s).axs.reservation rest =
          shedSweep s (fun j => !test s j) (s.axs.reservation - nominal s i) rest := by
        rw [shedLoad_reservation]
        refine shedSweep_congr (only_shedLoad i .budgetShed s) (fun j hj => ?_) _
        rw [htest s i j (fun e => hi (e ▸ hj))]
      rw [hstep, hrest', shedSweep, if_pos (by simpa using hc)]
      rfl
    · have hstep : sweepBy test s i = s := by simp [sweepBy, overCap]; tauto
      rw [hstep, shedSweep, if_neg (by simpa using hc)]

theorem shedSweep_within {s : State} {skip : LoadIx → Bool} {r : Nat} (h : r ≤ s.axs.record.auxCap) (l : List LoadIx) :
    shedSweep s skip r l = [] := by
  induction l with
  | nil => rfl
  | cons i rest ih => rw [shedSweep, if_neg (by omega), ih]

theorem shedSweep_sublist (s : State) (skip : LoadIx → Bool) (r : Nat) (l : List LoadIx) :
    (shedSweep s skip r l).Sublist l := by
  induction l generalizing r with
  | nil => exact .slnil
  | cons i rest ih =>
    unfold shedSweep
    split
    · exact (ih _).cons_cons i
    · exact (ih _).cons i

theorem skip_of_mem_shedSweep {s : State} {skip : LoadIx → Bool} {r : Nat} {l : List LoadIx} {i : LoadIx}
    (h : i ∈ shedSweep s skip r l) : skip i = false := by
  induction l generalizing r with
  | nil => cases h
  | cons j rest ih =>
    unfold shedSweep at h
    split at h
    · rename_i hc
      rcases List.mem_cons.mp h with rfl | h
      · exact hc.2
      · exact ih h
    · exact ih h

/-- A sweep that leaves R above the cap has shed every load that it does not skip. -/
theorem mem_shedSweep_of_over {s : State} {skip : LoadIx → Bool} {r : Nat} {l : List LoadIx}
    (h : s.axs.record.auxCap < r - nominalSum s (shedSweep s skip r l)) {i : LoadIx} (hi : i ∈ l)
    (hskip : skip i = false) : i ∈ shedSweep s skip r l := by
  induction l generalizing r with
  | nil => cases hi
  | cons j rest ih =>
    unfold shedSweep at h ⊢
    split at h
    · rename_i hc
      rw [if_pos hc]
      rw [nominalSum_cons, ← Nat.sub_sub] at h
      rcases List.mem_cons.mp hi with rfl | hi
      · exact List.mem_cons_self
      · exact List.mem_cons_of_mem _ (ih h hi)
    · rename_i hc
      rw [if_neg hc]
      rcases List.mem_cons.mp hi with rfl | hi
      · exact absurd ⟨by omega, hskip⟩ hc
      · exact ih h hi

end Sys2Proof.Machine
end

section
/-! `excludeAndShed` sheds exactly the loads of `shedPlan`, in its order. -/

namespace Sys2Proof.Machine

/-! ### The parts of the plan -/

/-- R118: the ON loads that the mode no longer permits. -/
def excludedLoads (s : State) : List LoadIx :=
  if s.axs.record.mode = .wire then [] else (onLoads s).filter fun i => !permitted s i

/-- R116: the candidates of the budget shed, among the loads that the exclusion leaves ON. -/
def shedCandidates (s : State) : List LoadIx :=
  (onLoads s).filter fun i => decide (i ∉ excludedLoads s ∧ 0 < priority s i)

/-- R116, first sweep: those whose minimum-on timer is stopped. -/
def sheddingFirst (s : State) : List LoadIx :=
  shedSweep s (fun i => (loadRec s i).minOn.isSome) (s.axs.reservation - nominalSum s (excludedLoads s)) (shedCandidates s)

/-- R116, second sweep: the rest. -/
def sheddingSecond (s : State) : List LoadIx :=
  shedSweep s (fun i => decide (i ∈ sheddingFirst s))
    (s.axs.reservation - nominalSum s (excludedLoads s) - nominalSum s (sheddingFirst s)) (shedCandidates s)

/-- The plan with its causes by name. -/
def causedPlan (s : State) : List (LoadIx × AuxCause) :=
  forCause .excluded (excludedLoads s) ++ forCause .budgetShed (sheddingFirst s ++ sheddingSecond s)

theorem planCodes_causedPlan (s : State) : planCodes (causedPlan s) = shedPlan s := by
  rw [planCodes, causedPlan, List.map_append, forCause, forCause, List.map_map, List.map_map]
  rfl

theorem map_fst_causedPlan (s : State) :
    (causedPlan s).map Prod.fst = excludedLoads s ++ (sheddingFirst s ++ sheddingSecond s) := by
  simp only [causedPlan, List.map_append, map_fst_forCause]

/-! ### The plan names ON loads, each once -/

theorem nodup_shedCandidates (s : State) : (shedCandidates s).Nodup := (nodup_onLoads s).filter _

theorem mem_shedCandidates {s : State} {i : LoadIx} :
    i ∈ shedCandidates s ↔ (loadRec s i).state = .on ∧ i ∉ excludedLoads s ∧ 0 < priority s i := by
  simp [shedCandidates, mem_onLoads]

theorem mem_excludedLoads {s : State} {i : LoadIx} :
    i ∈ excludedLoads s ↔ s.axs.record.mode ≠ .wire ∧ (loadRec s i).state = .on ∧ permitted s i = false := by
  unfold excludedLoads
  split <;> simp [*, mem_onLoads]

theorem nodup_excludedLoads (s : State) : (excludedLoads s).Nodup := by
  unfold excludedLoads
  split
  · exact List.nodup_nil
  · exact (nodup_onLoads s).filter _

theorem mem_candidates_of_first {s : State} {i : LoadIx} (h : i ∈ sheddingFirst s) : i ∈ shedCandidates s :=
  (shedSweep_sublist _ _ _ _).subset h

theorem mem_candidates_of_second {s : State} {i : LoadIx} (h : i ∈ sheddingSecond s) : i ∈ shedCandidates s :=
  (shedSweep_sublist _ _ _ _).subset h

theorem not_mem_first_of_second {s : State} {i : LoadIx} (h : i ∈ sheddingSecond s) : i ∉ sheddingFirst s :=
  of_decide_eq_false (skip_of_mem_shedSweep h)

theorem nodup_causedPlan (s : State) : ((causedPlan s).map Prod.fst).Nodup := by
  rw [map_fst_causedPlan, List.nodup_append, List.nodup_append]
  refine ⟨nodup_excludedLoads s, ⟨(nodup_shedCandidates s).sublist (shedSweep_sublist _ _ _ _),
    (nodup_shedCandidates s).sublist (shedSweep_sublist _ _ _ _), ?_⟩, ?_⟩
  · rintro i hi _ hj rfl
    exact not_mem_first_of_second hj hi
  · rintro i hi _ hj rfl
    have hc : i ∈ shedCandidates s :=
      (List.mem_append.mp hj).elim mem_candidates_of_first mem_candidates_of_second
    exact (mem_shedCandidates.mp hc).2.1 hi

theorem on_of_mem_causedPlan {s : State} : ∀ i ∈ (causedPlan s).map Prod.fst, (loadRec s i).state = .on := by
  intro i hi
  rw [map_fst_causedPlan, List.mem_append, List.mem_append] at hi
  rcases hi with hi | hi | hi
  · exact (mem_excludedLoads.mp hi).2.1
  · exact (mem_shedCandidates.mp (mem_candidates_of_first hi)).1
  · exact (mem_shedCandidates.mp (mem_candidates_of_second hi)).1

/-! ### The budget shed (R116) -/

/-- The two sweeps over candidates that are ON, from a state to which the plan's state has led. -/
theorem budgetShed_eq (s : State) :
    let candidates := (onLoads s).filter fun i => decide (0 < priority s i)
    let first := shedSweep s (fun i => (loadRec s i).minOn.isSome) s.axs.reservation candidates
    let second := shedSweep s (fun i => decide (i ∈ first)) (s.axs.reservation - nominalSum s first) candidates
    budgetShed s = shedAll (forCause .budgetShed (first ++ second)) s := by
  intro candidates first second
  have hn : candidates.Nodup := (nodup_onLoads s).filter _
  have hfirst : candidates.foldl sweepFirst s = shedAll (forCause .budgetShed first) s := by
    refine (foldl_sweepBy (fun s i => (loadRec s i).minOn.isNone) (fun s i j hj => ?_) candidates hn s).trans ?_
    · rw [loadRec_shedLoad, if_neg hj]
    · simp only [first, Option.not_isNone]
  have hfn : ((forCause .budgetShed first).map Prod.fst).Nodup := by
    rw [map_fst_forCause]
    exact hn.sublist (shedSweep_sublist _ _ _ _)
  have hsecond : candidates.foldl sweepSecond (shedAll (forCause .budgetShed first) s) =
      shedAll (forCause .budgetShed second) (shedAll (forCause .budgetShed first) s) := by
    refine (foldl_sweepBy (fun s i => decide ((loadRec s i).state = .on)) (fun s i j hj => ?_) candidates hn _).trans ?_
    · rw [loadRec_shedLoad, if_neg hj]
    · rw [reservation_shedAll, map_fst_forCause, shedSweep_congr (only_shedAll _ s) (skip := fun i => decide (i ∈ first))]
      intro i hi
      have hon : (loadRec s i).state = .on := mem_onLoads.mp (List.mem_filter.mp hi).1
      rw [loadRec_shedAll _ _ hfn, map_fst_forCause]
      by_cases hm : i ∈ first <;> simp [hm, hon]
  rw [budgetShed]
  change candidates.foldl sweepSecond (candidates.foldl sweepFirst s) = _
  rw [hfirst, hsecond, forCause_append, shedAll_append]

theorem forcedExclusion_eq (s : State) (h : fromBattery s.axs.record.mode = true) :
    forcedExclusion s = shedAll (forCause .excluded (excludedLoads s)) s := by
  have hm : s.axs.record.mode ≠ .wire := by simpa [fromBattery] using h
  rw [forcedExclusion, foldl_excludeLoad, excludedLoads, if_neg hm]

/-- R119, R122, R128: exclusion where the mode is from battery, and a budget shed where R is then above the cap. -/
theorem excludeAndShed_eq (s : State) : excludeAndShed s = shedAll (causedPlan s) s := by
  have hexclude : (if fromBattery s.axs.record.mode then forcedExclusion s else s) =
      shedAll (forCause .excluded (excludedLoads s)) s := by
    split
    · rename_i h
      exact forcedExclusion_eq s h
    · rename_i h
      have hm : s.axs.record.mode = .wire := by simpa [fromBattery] using h
      simp [excludedLoads, hm, forCause, shedAll]
  have hn : ((forCause .excluded (excludedLoads s)).map Prod.fst).Nodup := by
    rw [map_fst_forCause]
    exact nodup_excludedLoads s
  unfold excludeAndShed
  rw [hexclude, causedPlan, shedAll_append]
  generalize ht : shedAll (forCause .excluded (excludedLoads s)) s = t
  have ho : OnlyAux s t := ht ▸ only_shedAll _ s
  have hres : t.axs.reservation = s.axs.reservation - nominalSum s (excludedLoads s) := by
    rw [← ht, reservation_shedAll, map_fst_forCause]
  dsimp only
  split
  · have hcand : (onLoads t).filter (fun i => decide (0 < priority t i)) = shedCandidates s := by
      rw [← ht, onLoads_shedAll _ s hn, map_fst_forCause, List.filter_filter, shedCandidates, ht]
      refine List.filter_congr fun i _ => ?_
      rw [ho.priority, Bool.decide_and, Bool.and_comm]
    have hfirst : shedSweep t (fun i => (loadRec t i).minOn.isSome) t.axs.reservation (shedCandidates s) =
        sheddingFirst s := by
      rw [hres]
      refine shedSweep_congr ho (fun i hi => ?_) _
      rw [← ht, loadRec_shedAll _ s hn, map_fst_forCause, if_neg (mem_shedCandidates.mp hi).2.1]
    have hsecond : shedSweep t (fun i => decide (i ∈ sheddingFirst s))
        (t.axs.reservation - nominalSum t (sheddingFirst s)) (shedCandidates s) = sheddingSecond s := by
      rw [hres, nominalSum_congr ho]
      exact shedSweep_congr ho (fun _ _ => rfl) _
    rw [budgetShed_eq, hcand, hfirst, hsecond]
  · rename_i hover
    have hwithin : s.axs.reservation - nominalSum s (excludedLoads s) ≤ s.axs.record.auxCap := by
      simpa [overCap, hres, ho.record] using hover
    have hfirst : sheddingFirst s = [] := shedSweep_within hwithin _
    have hsecond : sheddingSecond s = [] := shedSweep_within ((Nat.sub_le _ _).trans hwithin) _
    rw [hfirst, hsecond]
    rfl

theorem excludeAndShed_shedBy (s : State) : ShedBy (shedPlan s) s (excludeAndShed s) := by
  rw [excludeAndShed_eq, ← planCodes_causedPlan]
  exact shedBy_shedAll _ s (nodup_causedPlan s) on_of_mem_causedPlan

/-! ### What remains ON -/

theorem on_excludeAndShed {s : State} {i : LoadIx} :
    (loadRec (excludeAndShed s) i).state = .on ↔ (loadRec s i).state = .on ∧ i ∉ (causedPlan s).map Prod.fst := by
  rw [excludeAndShed_eq, loadRec_shedAll _ s (nodup_causedPlan s)]
  split
  · simp [*]
  · simp [*]

/-- R116: R is within the cap, or every load left ON has priority 0. -/
theorem reservation_excludeAndShed (s : State) :
    (excludeAndShed s).axs.reservation ≤ s.axs.record.auxCap ∨
      ∀ i, (loadRec (excludeAndShed s) i).state = .on → priority s i = 0 := by
  rw [or_iff_not_imp_left]
  intro hover i hi
  rw [Nat.not_le, excludeAndShed_eq, reservation_shedAll, map_fst_causedPlan, nominalSum_append, nominalSum_append,
    ← Nat.sub_sub, ← Nat.sub_sub] at hover
  obtain ⟨hon, hplan⟩ := on_excludeAndShed.mp hi
  rw [map_fst_causedPlan, List.mem_append, List.mem_append] at hplan
  by_contra hp
  have hc : i ∈ shedCandidates s := mem_shedCandidates.mpr ⟨hon, fun h => hplan (.inl h), Nat.pos_of_ne_zero hp⟩
  have hfirst : i ∉ sheddingFirst s := fun h => hplan (.inr (.inl h))
  exact hplan (.inr (.inr (mem_shedSweep_of_over hover hc (decide_eq_false hfirst))))

/-- R118: every load left ON is permitted, where the mode is from battery. -/
theorem permitted_excludeAndShed {s : State} {i : LoadIx} (hi : (loadRec (excludeAndShed s) i).state = .on)
    (hm : s.axs.record.mode ≠ .wire) : permitted s i = true := by
  obtain ⟨hon, hplan⟩ := on_excludeAndShed.mp hi
  rw [map_fst_causedPlan, List.mem_append] at hplan
  by_contra hp
  exact hplan (.inl (mem_excludedLoads.mpr ⟨hm, hon, by simpa using hp⟩))

end Sys2Proof.Machine
end

section
/-! The admission pass (R114, R115): the loads of `firstFit` are admitted in the list's order. -/

namespace Sys2Proof.Machine

/-! ### Admitting the loads of a list -/

/-- Loads admitted one after another. -/
def admitAll (l : List LoadIx) (s : State) : State := l.foldl (fun t i => admitLoad i t) s

theorem admitAll_cons (i : LoadIx) (l : List LoadIx) (s : State) : admitAll (i :: l) s = admitAll l (admitLoad i s) := rfl

theorem only_admitLoad (i : LoadIx) (s : State) : OnlyAux s (admitLoad i s) := (walked_admitLoad i s).only

theorem only_admitAll (l : List LoadIx) (s : State) : OnlyAux s (admitAll l s) := by
  induction l generalizing s with
  | nil => exact .refl s
  | cons i rest ih => exact (only_admitLoad i s).trans (ih _)

theorem orderCount_admitAll (l : List LoadIx) (s : State) :
    (admitAll l s).axs.orderCount = s.axs.orderCount + l.length := by
  obtain hcount := fun i s => (admitLoad_spec i s).2.2.2.1
  induction l generalizing s with
  | nil => rfl
  | cons i rest ih => rw [admitAll_cons, ih, hcount, List.length_cons]; omega

theorem reservation_admitAll (l : List LoadIx) (s : State) :
    (admitAll l s).axs.reservation = s.axs.reservation + nominalSum s l := by
  obtain hres := fun i s => (admitLoad_spec i s).2.2.1
  induction l generalizing s with
  | nil => rfl
  | cons i rest ih =>
    rw [admitAll_cons, ih, hres, nominalSum_congr (only_admitLoad i s), nominalSum_cons, Nat.add_assoc]

theorem joinOrder_admitAll (l : List LoadIx) (s : State) :
    (admitAll l s).axs.joinOrder = s.axs.joinOrder.filter fun j => decide (j ∉ l) := by
  obtain hjoin := fun i s => (admitLoad_spec i s).2.1
  induction l generalizing s with
  | nil => simp [admitAll]
  | cons i rest ih =>
    rw [admitAll_cons, ih, hjoin, List.filter_filter]
    refine List.filter_congr fun j _ => ?_
    simp only [List.mem_cons, not_or, Bool.decide_and, Bool.and_comm, ne_eq]

theorem loadRec_admitAll (l : List LoadIx) (s : State) (hn : l.Nodup) (j : LoadIx) :
    loadRec (admitAll l s) j = if j ∈ l then
      { loadRec s j with
        state := .on
        joined := none
        admitted := some s.ms
        order := some (s.axs.orderCount + l.idxOf j + 1)
        minOn := startMin (auxEntry s j).minOn.toNat }
    else loadRec s j := by
  obtain hcount := fun i s => (admitLoad_spec i s).2.2.2.1
  induction l generalizing s with
  | nil => simp [admitAll]
  | cons i rest ih =>
    obtain ⟨hi, hrest⟩ := List.nodup_cons.mp hn
    rw [admitAll_cons, ih _ hrest, loadRec_admitLoad, (only_admitLoad i s).auxEntry, (only_admitLoad i s).ms, hcount]
    by_cases hj : j = i
    · subst hj
      simp [hi]
    · have hmem : j ∈ i :: rest ↔ j ∈ rest := by rw [List.mem_cons, or_iff_right hj]
      have hidx : s.axs.orderCount + 1 + rest.idxOf j + 1 = s.axs.orderCount + (i :: rest).idxOf j + 1 := by
        rw [List.idxOf_cons_ne _ (Ne.symm hj)]; omega
      simp only [if_neg hj, hmem, hidx]

theorem admitNotices_congr {s t : State} (h : OnlyAux s t) {l : List LoadIx}
    (hstate : ∀ j ∈ l, (loadRec t j).state = (loadRec s j).state) (r : Nat) :
    admitNotices t r l = admitNotices s r l := by
  induction l generalizing r with
  | nil => rfl
  | cons i rest ih =>
    have ih' := ih (fun j hj => hstate j (List.mem_cons_of_mem _ hj))
    simp only [admitNotices, h.nominal, hstate i List.mem_cons_self, ih']

theorem walked_admitAll (l : List LoadIx) (s : State) (hn : l.Nodup) :
    Walked s (admitAll l s) (l.map fun j => (j, onCommand s j)) (admitNotices s s.axs.reservation l) := by
  obtain hres := fun i s => (admitLoad_spec i s).2.2.1
  induction l generalizing s with
  | nil => exact .refl s
  | cons i rest ih =>
    obtain ⟨hi, hrest⟩ := List.nodup_cons.mp hn
    have ho := only_admitLoad i s
    have htail := ih (admitLoad i s) hrest
    rw [admitNotices_congr ho fun j hj => by rw [loadRec_admitLoad, if_neg fun e : j = i => hi (e ▸ hj)], hres] at htail
    simp only [ho.onCommand] at htail
    exact (walked_admitLoad i s).trans htail
      (fun y hy => by rw [map_fst_commands, List.mem_singleton.mp hy]; exact hi)

/-! ### The walk (R114) -/

theorem firstFit_congr {s t : State} (h : OnlyAux s t) {l : List LoadIx}
    (hmin : ∀ j ∈ l, (loadRec t j).minOff = (loadRec s j).minOff) (r : Nat) : firstFit t r l = firstFit s r l := by
  induction l generalizing r with
  | nil => rfl
  | cons i rest ih =>
    have ih' := ih (fun j hj => hmin j (List.mem_cons_of_mem _ hj))
    have helig : eligible t i = eligible s i := by
      rw [eligible, h.permitted, hmin i List.mem_cons_self, eligible]
    simp only [firstFit, helig, h.nominal, h.record, h.mge, ih']

theorem foldl_tryAdmit (l : List LoadIx) (hn : l.Nodup) (s : State) :
    l.foldl tryAdmit s = admitAll (firstFit s s.axs.reservation l) s := by
  obtain hres := fun i s => (admitLoad_spec i s).2.2.1
  induction l generalizing s with
  | nil => rfl
  | cons i rest ih =>
    obtain ⟨hi, hrest⟩ := List.nodup_cons.mp hn
    rw [List.foldl_cons, ih hrest, firstFit]
    by_cases hc : eligible s i = true ∧ s.axs.reservation + nominal s i + admitMargin s.mge.params ≤ s.axs.record.auxCap
    · have hstep : tryAdmit s i = admitLoad i s := by simp [tryAdmit, fits, hc]
      have hrest' := firstFit_congr (only_admitLoad i s) (l := rest)
        (fun j hj => by rw [loadRec_admitLoad, if_neg fun e : j = i => hi (e ▸ hj)]) (admitLoad i s).axs.reservation
      rw [hstep, if_pos hc, hrest', hres]
      rfl
    · have hstep : tryAdmit s i = s := if_neg (by simpa [fits] using hc)
      rw [hstep, if_neg hc]

theorem firstFit_sublist (s : State) (r : Nat) (l : List LoadIx) : (firstFit s r l).Sublist l := by
  induction l generalizing r with
  | nil => exact .slnil
  | cons i rest ih =>
    unfold firstFit
    split
    · exact (ih _).cons_cons i
    · exact (ih _).cons i

theorem eligible_of_mem_firstFit {s : State} {r : Nat} {l : List LoadIx} {i : LoadIx} (h : i ∈ firstFit s r l) :
    eligible s i = true := by
  induction l generalizing r with
  | nil => cases h
  | cons j rest ih =>
    unfold firstFit at h
    split at h
    · rename_i hc
      rcases List.mem_cons.mp h with rfl | h
      · exact hc.1
      · exact ih h
    · exact ih h

/-- A pass that admits a load ends with R within the cap. -/
theorem firstFit_within (s : State) (r : Nat) (l : List LoadIx) :
    firstFit s r l = [] ∨ r + nominalSum s (firstFit s r l) ≤ s.axs.record.auxCap := by
  induction l generalizing r with
  | nil => exact .inl rfl
  | cons i rest ih =>
    unfold firstFit
    split
    · rename_i hc
      right
      rw [nominalSum_cons, ← Nat.add_assoc]
      rcases ih (r + nominal s i) with h | h
      · rw [h]
        change r + nominal s i ≤ s.axs.record.auxCap
        omega
      · exact h
    · exact ih r

/-- The loads that a pass admits. -/
def admittedLoads (s : State) : List LoadIx := firstFit s s.axs.reservation (waitingList s)

theorem admissionPass_eq {s : State} (h : s.axs.joinOrder.Nodup) : admissionPass s = admitAll (admittedLoads s) s :=
  foldl_tryAdmit _ (nodup_waitingList h) s

theorem nodup_admittedLoads {s : State} (h : s.axs.joinOrder.Nodup) : (admittedLoads s).Nodup :=
  (nodup_waitingList h).sublist (firstFit_sublist _ _ _)

theorem mem_joinOrder_of_admitted {s : State} {i : LoadIx} (h : i ∈ admittedLoads s) : i ∈ s.axs.joinOrder :=
  mem_waitingList.mp ((firstFit_sublist _ _ _).subset h)

/-- R114, R115: one pass. -/
theorem admissionPass_passed {s : State} (h : s.axs.joinOrder.Nodup) : Passed s (admissionPass s) := by
  have hn := nodup_admittedLoads h
  obtain ⟨hslots, hupi, honly, hhanded⟩ := walked_admitAll (admittedLoads s) s hn
  rw [admissionPass_eq h]
  refine ⟨loadRec_admitAll _ s hn, joinOrder_admitAll _ s, reservation_admitAll _ s, orderCount_admitAll _ s, ?_,
    hupi, honly, hhanded⟩
  rw [hslots, map_fst_commands]
  rfl

end Sys2Proof.Machine
end

section
/-! The reservation and the waiting list through a shed and a pass, and what the record then asks of the loads left ON. -/

namespace Sys2Proof.Machine

/-! ### The reservation (R109) -/

theorem onSum_eq_sum (s : State) : onSum s = ∑ i : LoadIx, if (loadRec s i).state = .on then nominal s i else 0 := by
  rw [Fin.sum_univ_def]
  rfl

theorem nominalSum_eq_sum (s : State) {l : List LoadIx} (hn : l.Nodup) :
    nominalSum s l = ∑ i : LoadIx, if i ∈ l then nominal s i else 0 := by
  rw [nominalSum, ← List.sum_toFinset _ hn, ← Finset.sum_filter]
  refine Finset.sum_congr ?_ fun _ _ => rfl
  ext i
  simp

/-- The sum over the loads ON falls by the nominal currents of the loads that leave ON. -/
theorem onSum_eq_add {s t : State} (hnom : ∀ i, nominal t i = nominal s i) {l : List LoadIx} (hn : l.Nodup)
    (hl : ∀ i ∈ l, (loadRec s i).state = .on)
    (ht : ∀ i, (loadRec t i).state = .on ↔ (loadRec s i).state = .on ∧ i ∉ l) :
    onSum s = onSum t + nominalSum s l := by
  rw [onSum_eq_sum, onSum_eq_sum, nominalSum_eq_sum s hn, ← Finset.sum_add_distrib]
  refine Finset.sum_congr rfl fun i _ => ?_
  by_cases hi : i ∈ l
  · simp [ht, hi, hl i hi]
  · simp [ht, hi, hnom]

/-! ### Listed loads -/

/-- R108, R109: the waiting list holds no load twice and WAITING and SHED loads only, and R is the sum over the loads ON. -/
structure LoadsListed (s : State) : Prop where
  nodup : s.axs.joinOrder.Nodup
  place : ∀ i ∈ s.axs.joinOrder, (loadRec s i).state = .waiting ∨ (loadRec s i).state = .shed
  sum   : s.axs.reservation = onSum s

theorem LoadsListed.not_on {s : State} (h : LoadsListed s) {i : LoadIx} (hi : i ∈ s.axs.joinOrder) :
    (loadRec s i).state ≠ .on := by
  rcases h.place i hi with e | e <;> simp [e]

theorem LoadsListed.excludeAndShed {s : State} (h : LoadsListed s) : LoadsListed (excludeAndShed s) := by
  have hn := nodup_causedPlan s
  refine ⟨?_, fun i hi => ?_, ?_⟩
  · rw [excludeAndShed_eq, joinOrder_shedAll, List.nodup_append]
    refine ⟨h.nodup, hn, ?_⟩
    rintro i hi _ hj rfl
    exact h.not_on hi (on_of_mem_causedPlan i hj)
  · rw [excludeAndShed_eq, joinOrder_shedAll, List.mem_append] at hi
    rw [excludeAndShed_eq, loadRec_shedAll _ s hn]
    split
    · exact .inr rfl
    · exact h.place i (hi.resolve_right (by assumption))
  · have hsum := onSum_eq_add (t := Machine.excludeAndShed s)
      (fun i => by rw [excludeAndShed_eq]; exact (only_shedAll _ s).nominal i) hn on_of_mem_causedPlan
      (fun i => on_excludeAndShed)
    have hres : (Machine.excludeAndShed s).axs.reservation =
        s.axs.reservation - nominalSum s ((causedPlan s).map Prod.fst) := by rw [excludeAndShed_eq, reservation_shedAll]
    have hs := h.sum
    omega

theorem on_admissionPass {s : State} (h : s.axs.joinOrder.Nodup) {i : LoadIx} :
    (loadRec (admissionPass s) i).state = .on ↔ (loadRec s i).state = .on ∨ i ∈ admittedLoads s := by
  rw [admissionPass_eq h, loadRec_admitAll _ s (nodup_admittedLoads h)]
  split <;> simp [*]

theorem LoadsListed.admissionPass {s : State} (h : LoadsListed s) : LoadsListed (admissionPass s) := by
  have hn := nodup_admittedLoads h.nodup
  have hjoin : (Machine.admissionPass s).axs.joinOrder = s.axs.joinOrder.filter fun j => decide (j ∉ admittedLoads s) := by
    rw [admissionPass_eq h.nodup, joinOrder_admitAll]
  refine ⟨?_, fun i hi => ?_, ?_⟩
  · rw [hjoin]
    exact h.nodup.filter _
  · rw [hjoin, List.mem_filter, decide_eq_true_eq] at hi
    rw [admissionPass_eq h.nodup, loadRec_admitAll _ s hn, if_neg hi.2]
    exact h.place i hi.1
  · have honly : OnlyAux s (Machine.admissionPass s) := by
      rw [admissionPass_eq h.nodup]
      exact only_admitAll _ s
    have hsum := onSum_eq_add (s := Machine.admissionPass s) (t := s) (fun i => (honly.nominal i).symm) hn
      (fun i hi => (on_admissionPass h.nodup).mpr (.inr hi)) (fun i => by
        rw [on_admissionPass h.nodup]
        constructor
        · exact fun hon => ⟨.inl hon, fun hi => h.not_on (mem_joinOrder_of_admitted hi) hon⟩
        · exact fun hor => hor.1.resolve_right hor.2)
    have hres : (Machine.admissionPass s).axs.reservation = s.axs.reservation + nominalSum s (admittedLoads s) := by
      rw [admissionPass_eq h.nodup, reservation_admitAll]
    have hnom := nominalSum_congr honly (admittedLoads s)
    have hs := h.sum
    omega

/-! ### Within the record (R114, R116, R118) -/

theorem permitted_iff (s : State) (i : LoadIx) : permitted s i = true ↔
    (s.axs.record.mode ≠ .wire → (auxEntry s i).battery = true) ∧
    (s.axs.record.mode = .dewired → priority s i ≤ keepPriority s.mge.params) := by
  simp only [permitted, fromBattery, Bool.and_eq_true, Bool.or_eq_true, Bool.not_eq_true', decide_eq_true_eq,
    decide_eq_false_iff_not]
  tauto

/-- A mode on the wire permits every load. -/
theorem permitted_of_wire {s : State} (h : s.axs.record.mode = .wire) (i : LoadIx) : permitted s i = true :=
  (permitted_iff s i).mpr ⟨fun hm => absurd h hm, fun hd => by rw [h] at hd; cases hd⟩

theorem only_excludeAndShed (s : State) : OnlyAux s (excludeAndShed s) := by
  rw [excludeAndShed_eq]
  exact only_shedAll _ s

/-- Exclusion, shed and pass leave the loads within the record in use. -/
theorem loadsWithinRecord_review {s : State} (h : LoadsListed s) :
    LoadsWithinRecord (admissionPass (excludeAndShed s)) := by
  have hx := h.excludeAndShed
  have ho1 := only_excludeAndShed s
  have ho2 : OnlyAux (excludeAndShed s) (admissionPass (excludeAndShed s)) := by
    rw [admissionPass_eq hx.nodup]
    exact only_admitAll _ _
  have ho := ho1.trans ho2
  refine ⟨?_, fun i hi => ?_⟩
  · rw [ho.record]
    rcases firstFit_within (excludeAndShed s) (excludeAndShed s).axs.reservation (waitingList (excludeAndShed s)) with
      hnone | hwithin
    · have hsame : admissionPass (excludeAndShed s) = excludeAndShed s := by
        rw [admissionPass_eq hx.nodup, admittedLoads, hnone]
        rfl
      rw [hsame]
      simp only [ho1.priority]
      exact reservation_excludeAndShed s
    · left
      rw [admissionPass_eq hx.nodup, reservation_admitAll]
      rw [ho1.record] at hwithin
      exact hwithin
  · have hp : permitted (admissionPass (excludeAndShed s)) i = true := by
      rw [ho.permitted]
      rcases (on_admissionPass hx.nodup).mp hi with hon | hadm
      · by_cases hm : s.axs.record.mode = .wire
        · exact permitted_of_wire hm i
        · exact permitted_excludeAndShed hon hm
      · have helig := eligible_of_mem_firstFit hadm
        rw [eligible, Bool.and_eq_true, ho1.permitted] at helig
        exact helig.2
    exact (permitted_iff _ i).mp hp

end Sys2Proof.Machine
end

section
/-! Loads whose entries a new aux table makes invalid (R128, step 2), one after another. -/

namespace Sys2Proof.Machine

/-! ### One load -/

/-- R108: a load stands in the waiting list, and keeps a time of joining, only where it is WAITING or SHED. -/
def PlaceLegal (s : State) (i : LoadIx) : Prop :=
  (i ∈ s.axs.joinOrder → (loadRec s i).state = .waiting ∨ (loadRec s i).state = .shed) ∧
  ((loadRec s i).joined.isSome = true → (loadRec s i).state = .waiting ∨ (loadRec s i).state = .shed)

section NotWaiting

variable {s : State} {i : LoadIx} (h : PlaceLegal s i) (hw : (loadRec s i).state ≠ .waiting)
  (hs : (loadRec s i).state ≠ .shed)

include h hw hs

theorem PlaceLegal.joined_none : (loadRec s i).joined = none := by
  rw [← Option.not_isSome_iff_eq_none]
  exact fun hj => (h.2 hj).elim hw hs

theorem PlaceLegal.filter_joinOrder : s.axs.joinOrder.filter (fun j => decide (j ∉ [i])) = s.axs.joinOrder :=
  List.filter_eq_self.mpr fun j hj => by
    rw [decide_eq_true_eq, List.mem_singleton]
    rintro rfl
    exact (h.1 hj).elim hw hs

end NotWaiting

/-- The loads of a list have gone OFF in its order. -/
structure RetiredAll (old : AuxTable) (l : List LoadIx) (s t : State) : Prop where
  record     : ∀ j, loadRec t j = if j ∈ l then retiredRec old[j] (loadRec s j) else loadRec s j
  joinOrder  : t.axs.joinOrder = s.axs.joinOrder.filter fun j => decide (j ∉ l)
  orderCount : t.axs.orderCount = s.axs.orderCount
  walked     : Walked s t
    ((l.filter fun i => decide ((loadRec s i).state = .on)).map fun j => (j, offCommand s old[j] j))
    (retireNotices old s s.axs.reservation l)

/-- The load is no longer requested. -/
def unrequested (i : LoadIx) (s : State) : State := setLoad i { loadRec s i with requested := false } s

theorem loadRec_unrequested (i j : LoadIx) (s : State) : loadRec (unrequested i s) j =
    if j = i then { loadRec s i with requested := false } else loadRec s j := loadRec_setLoad _ _ _ _

theorem unrequested_eq (i : LoadIx) (s : State) :
    unrequested i s = setLoad i { loadRec s i with requested := false } s := rfl

@[simp] theorem state_unrequested (i : LoadIx) (s : State) :
    (loadRec (unrequested i s) i).state = (loadRec s i).state := by
  rw [loadRec_unrequested, if_pos rfl]

theorem walked_unrequested (i : LoadIx) (s : State) : Walked s (unrequested i s) [] [] := walked_setLoad i _ s

section OneLoad

variable {old : AuxTable} {s : State} {i : LoadIx} (hi : (auxEntry s i).valid = false)

include hi

theorem retireLoad_on (hs : (loadRec s i).state = .on) :
    retireLoad old s i = enterState i .off .tableCommit (leaveOn i old[i] (unrequested i s)) := by
  rw [← state_unrequested, unrequested_eq] at hs
  rw [retireLoad, if_neg (by simp [hi])]
  dsimp only
  rw [hs]
  rfl

theorem retireLoad_waiting (hs : (loadRec s i).state = .waiting) :
    retireLoad old s i = enterState i .off .tableCommit (leaveWaiting i (unrequested i s)) := by
  rw [← state_unrequested, unrequested_eq] at hs
  rw [retireLoad, if_neg (by simp [hi])]
  dsimp only
  rw [hs]
  rfl

theorem retireLoad_shed (hs : (loadRec s i).state = .shed) :
    retireLoad old s i = enterState i .off .tableCommit (leaveWaiting i (unrequested i s)) := by
  rw [← state_unrequested, unrequested_eq] at hs
  rw [retireLoad, if_neg (by simp [hi])]
  dsimp only
  rw [hs]
  rfl

theorem retireLoad_listed (hs : (loadRec s i).state = .waiting ∨ (loadRec s i).state = .shed) :
    retireLoad old s i = enterState i .off .tableCommit (leaveWaiting i (unrequested i s)) :=
  hs.elim (retireLoad_waiting hi) (retireLoad_shed hi)

theorem retireLoad_fault (hs : (loadRec s i).state = .fault) :
    retireLoad old s i = enterState i .off .tableCommit (unrequested i s) := by
  rw [← state_unrequested, unrequested_eq] at hs
  rw [retireLoad, if_neg (by simp [hi])]
  dsimp only
  rw [hs]
  rfl

theorem retireLoad_off (hs : (loadRec s i).state = .off) :
    retireLoad old s i = unrequested i s := by
  rw [← state_unrequested, unrequested_eq] at hs
  rw [retireLoad, if_neg (by simp [hi])]
  dsimp only
  rw [hs]
  rfl

variable (hp : PlaceLegal s i)

include hp

theorem retiredAll_on (hs : (loadRec s i).state = .on) : RetiredAll old [i] s (retireLoad old s i) := by
  have hw := ((walked_unrequested i s).trans_silent (walked_leaveOn i old[i] (unrequested i s))).trans
    (walked_enterState i .off .tableCommit _) (fun _ _ hx => nomatch hx)
  have hstate : (loadRec (leaveOn i old[i] (unrequested i s)) i).state = .on := by
    rw [loadRec_leaveOn, if_pos rfl, loadRec_unrequested, if_pos rfl]
    exact hs
  rw [hstate] at hw
  refine ⟨fun j => ?_, ?_, ?_, ?_⟩
  · rw [retireLoad_on hi hs, loadRec_enterState, loadRec_leaveOn, if_pos rfl, loadRec_leaveOn, loadRec_unrequested,
      loadRec_unrequested, if_pos rfl]
    by_cases hj : j = i
    · subst hj
      simp [retiredRec, leftOn, hs, hp.joined_none (by simp [hs]) (by simp [hs])]
    · simp [hj]
  · rw [hp.filter_joinOrder (by simp [hs]) (by simp [hs]), retireLoad_on hi hs, enterState_axs]
    rfl
  · rw [retireLoad_on hi hs, enterState_axs]
    rfl
  · rw [retireLoad_on hi hs]
    have hw' : Walked s _ [(i, offCommand s old[i] i)]
        [auxStatePayload i (loadStateCode .on) 0 8 (s.axs.reservation - old[i].nominal.toNat)] := hw
    simpa [retireNotices, hs] using hw'

theorem retiredAll_listed (hs : (loadRec s i).state = .waiting ∨ (loadRec s i).state = .shed) :
    RetiredAll old [i] s (retireLoad old s i) := by
  have hw := ((walked_unrequested i s).trans_silent
    (walked_leaveWaiting i (unrequested i s))).trans_silent (walked_enterState i .off .tableCommit _)
  have hstate : (loadRec (leaveWaiting i (unrequested i s)) i).state = (loadRec s i).state := by
    rw [loadRec_leaveWaiting, if_pos rfl, loadRec_unrequested, if_pos rfl]
  rw [hstate] at hw
  have hon : (loadRec s i).state ≠ .on := by rcases hs with hs | hs <;> simp [hs]
  have hoff : (loadRec s i).state ≠ .off := by rcases hs with hs | hs <;> simp [hs]
  refine ⟨fun j => ?_, ?_, ?_, ?_⟩
  · rw [retireLoad_listed hi hs, loadRec_enterState, loadRec_leaveWaiting, if_pos rfl, loadRec_leaveWaiting,
      loadRec_unrequested, loadRec_unrequested, if_pos rfl]
    by_cases hj : j = i
    · subst hj
      simp [retiredRec, hon]
    · simp [hj]
  · rw [retireLoad_listed hi hs, enterState_axs]
    simp [leaveWaiting, unrequested]
  · rw [retireLoad_listed hi hs, enterState_axs]
    rfl
  · rw [retireLoad_listed hi hs]
    have hw' : Walked s _ [] [auxStatePayload i (loadStateCode (loadRec s i).state) 0 8 s.axs.reservation] := hw
    simpa [retireNotices, hon, hoff] using hw'

theorem retiredAll_fault (hs : (loadRec s i).state = .fault) : RetiredAll old [i] s (retireLoad old s i) := by
  have hw := (walked_unrequested i s).trans_silent
    (walked_enterState i .off .tableCommit (unrequested i s))
  have hstate : (loadRec (unrequested i s) i).state = .fault := by
    rw [loadRec_unrequested, if_pos rfl]
    exact hs
  rw [hstate] at hw
  refine ⟨fun j => ?_, ?_, ?_, ?_⟩
  · rw [retireLoad_fault hi hs, loadRec_enterState, loadRec_unrequested, loadRec_unrequested, if_pos rfl]
    by_cases hj : j = i
    · subst hj
      simp [retiredRec, hs, hp.joined_none (by simp [hs]) (by simp [hs])]
    · simp [hj]
  · rw [hp.filter_joinOrder (by simp [hs]) (by simp [hs]), retireLoad_fault hi hs, enterState_axs]
    rfl
  · rw [retireLoad_fault hi hs, enterState_axs]
    rfl
  · rw [retireLoad_fault hi hs]
    have hw' : Walked s _ [] [auxStatePayload i (loadStateCode .fault) 0 8 s.axs.reservation] := hw
    simpa [retireNotices, hs] using hw'

theorem retiredAll_off (hs : (loadRec s i).state = .off) : RetiredAll old [i] s (retireLoad old s i) := by
  refine ⟨fun j => ?_, ?_, ?_, ?_⟩
  · rw [retireLoad_off hi hs, loadRec_unrequested]
    by_cases hj : j = i
    · subst hj
      simp [retiredRec, hs, hp.joined_none (by simp [hs]) (by simp [hs])]
    · simp [hj]
  · rw [hp.filter_joinOrder (by simp [hs]) (by simp [hs]), retireLoad_off hi hs]
    rfl
  · rw [retireLoad_off hi hs]
    rfl
  · rw [retireLoad_off hi hs]
    simpa [retireNotices, hs] using walked_unrequested i s

theorem retiredAll_single : RetiredAll old [i] s (retireLoad old s i) := by
  cases hs : (loadRec s i).state with
  | on => exact retiredAll_on hi hp hs
  | waiting => exact retiredAll_listed hi hp (.inl hs)
  | shed => exact retiredAll_listed hi hp (.inr hs)
  | fault => exact retiredAll_fault hi hp hs
  | off => exact retiredAll_off hi hp hs

omit hp in
/-- R109: an ON load gives back its old nominal current. -/
theorem reservation_retireLoad : (retireLoad old s i).axs.reservation =
    if (loadRec s i).state = .on then s.axs.reservation - old[i].nominal.toNat else s.axs.reservation := by
  cases hs : (loadRec s i).state with
  | on => rw [retireLoad_on hi hs, enterState_axs]; rfl
  | waiting => rw [retireLoad_listed hi (.inl hs), enterState_axs]; rfl
  | shed => rw [retireLoad_listed hi (.inr hs), enterState_axs]; rfl
  | fault => rw [retireLoad_fault hi hs, enterState_axs]; rfl
  | off => rw [retireLoad_off hi hs]; rfl

end OneLoad

/-! ### The walk -/

theorem retireNotices_congr (old : AuxTable) {s t : State} {l : List LoadIx}
    (h : ∀ j ∈ l, (loadRec t j).state = (loadRec s j).state) (r : Nat) :
    retireNotices old t r l = retireNotices old s r l := by
  induction l generalizing r with
  | nil => rfl
  | cons i rest ih =>
    have ih' := ih (fun j hj => h j (List.mem_cons_of_mem _ hj))
    simp only [retireNotices, h i List.mem_cons_self, ih']

/-- One load and then the rest. -/
theorem RetiredAll.cons {old : AuxTable} {i : LoadIx} {rest : List LoadIx} {s u t : State} (h : RetiredAll old [i] s u)
    (hres : u.axs.reservation =
      if (loadRec s i).state = .on then s.axs.reservation - old[i].nominal.toNat else s.axs.reservation)
    (k : RetiredAll old rest u t) (hi : i ∉ rest) : RetiredAll old (i :: rest) s t where
  record j := by
    rw [k.record, h.record]
    by_cases hj : j = i
    · subst hj
      simp [hi]
    · simp [hj]
  joinOrder := by
    rw [k.joinOrder, h.joinOrder, List.filter_filter]
    refine List.filter_congr fun j _ => ?_
    simp only [List.mem_cons, List.not_mem_nil, or_false, not_or, Bool.decide_and, Bool.and_comm]
  orderCount := k.orderCount.trans h.orderCount
  walked := by
    have hstates : ∀ j ∈ rest, (loadRec u j).state = (loadRec s j).state := fun j hj => by
      have hne : j ∉ [i] := fun e => hi ((List.mem_singleton.mp e).symm ▸ hj)
      rw [h.record, if_neg hne]
    have hons : rest.filter (fun j => decide ((loadRec u j).state = .on)) =
        rest.filter fun j => decide ((loadRec s j).state = .on) :=
      List.filter_congr fun j hj => by rw [hstates j hj]
    have hrest := k.walked
    rw [hons, retireNotices_congr old hstates, hres] at hrest
    simp only [h.walked.only.offCommand] at hrest
    have hboth := h.walked.trans hrest fun x hx => by
      rw [map_fst_commands]
      obtain ⟨j, hj, rfl⟩ := List.mem_map.mp hx
      obtain rfl := List.mem_singleton.mp (List.mem_filter.mp hj).1
      exact fun hx => hi (List.mem_filter.mp hx).1
    rw [← List.map_append, ← List.filter_append] at hboth
    simpa [retireNotices] using hboth

/-- R108 of every other load after one has gone OFF. -/
theorem PlaceLegal.of_retired {old : AuxTable} {s u : State} {i j : LoadIx} (hp : PlaceLegal s j)
    (h : RetiredAll old [i] s u) (hj : j ≠ i) : PlaceLegal u j := by
  obtain ⟨hlist, htime⟩ := hp
  have hrec : loadRec u j = loadRec s j := by rw [h.record, if_neg (by simpa using hj)]
  rw [PlaceLegal, hrec, h.joinOrder]
  exact ⟨fun hmem => hlist (List.mem_filter.mp hmem).1, htime⟩

/-- R128, step 2: of the loads walked, those with invalid entries go OFF. -/
theorem foldl_retireLoad (old : AuxTable) (l : List LoadIx) (s : State) (hn : l.Nodup) (hp : ∀ i ∈ l, PlaceLegal s i) :
    RetiredAll old (l.filter fun i => !(auxEntry s i).valid) s (l.foldl (retireLoad old) s) := by
  induction l generalizing s with
  | nil => exact ⟨fun j => by simp, by simp, rfl, .refl s⟩
  | cons i rest ih =>
    obtain ⟨hmem, hrest⟩ := List.nodup_cons.mp hn
    have hp' : ∀ j ∈ rest, PlaceLegal s j := fun j hj => hp j (List.mem_cons_of_mem _ hj)
    rw [List.foldl_cons]
    cases hi : (auxEntry s i).valid with
    | true =>
      rw [retireLoad_valid old s i hi, List.filter_cons_of_neg (by simp [hi])]
      exact ih s hrest hp'
    | false =>
      have hone := retiredAll_single (old := old) hi (hp i List.mem_cons_self)
      have htail := ih (retireLoad old s i) hrest fun j hj =>
        (hp' j hj).of_retired hone fun e => hmem (e ▸ hj)
      simp only [hone.walked.only.auxEntry] at htail
      rw [List.filter_cons_of_pos (by simp [hi])]
      exact hone.cons (reservation_retireLoad hi) htail fun hx => hmem (List.mem_filter.mp hx).1

/-! ### The whole table (R128, steps 2 and 3) -/

/-- The loads whose active entries are invalid. -/
def invalidLoads (s : State) : List LoadIx := (List.finRange 16).filter fun i => !(auxEntry s i).valid

theorem mem_invalidLoads {s : State} {i : LoadIx} : i ∈ invalidLoads s ↔ (auxEntry s i).valid = false := by
  simp [invalidLoads]

/-- R128, step 2: the state after every load has been walked. -/
def retiredLoads (old : AuxTable) (s : State) : State := (List.finRange 16).foldl (retireLoad old) s

/-- R128, step 3: R takes a new value. -/
def setReservation (r : Nat) (s : State) : State := { s with axs.reservation := r }

@[simp] theorem setReservation_joinOrder (r : Nat) (s : State) :
    (setReservation r s).axs.joinOrder = s.axs.joinOrder := rfl

@[simp] theorem setReservation_reservation (r : Nat) (s : State) : (setReservation r s).axs.reservation = r := rfl

@[simp] theorem loadRec_setReservation (r : Nat) (s : State) (i : LoadIx) :
    loadRec (setReservation r s) i = loadRec s i := rfl

@[simp] theorem onSum_setReservation (r : Nat) (s : State) : onSum (setReservation r s) = onSum s := by
  have hrec : loadRec (setReservation r s) = loadRec s := rfl
  have hnom : nominal (setReservation r s) = nominal s := rfl
  rw [onSum, hrec, hnom, onSum]

theorem retiredAll_retiredLoads (old : AuxTable) {s : State} (hp : ∀ i, PlaceLegal s i) :
    RetiredAll old (invalidLoads s) s (retiredLoads old s) :=
  foldl_retireLoad old _ s (List.nodup_finRange 16) fun i _ => hp i

theorem OnlyAux.setReservation {s t : State} (h : OnlyAux s t) (r : Nat) : OnlyAux s (setReservation r t) := by
  obtain ⟨hstate, haxs⟩ := h
  refine ⟨(congrArg (Machine.setReservation r) hstate).trans rfl, ?_⟩
  exact (congrArg (fun a : Axs => { a with reservation := r }) haxs).trans rfl

theorem RetiredAll.retiredBy {old : AuxTable} {s t : State} (h : RetiredAll old (invalidLoads s) s t) :
    RetiredBy old s (setReservation (onSum t) t) := by
  obtain ⟨hslots, hupi, honly, hhanded⟩ := h.walked
  rw [map_fst_commands] at hslots
  have hsum : (setReservation (onSum t) t).axs.reservation = onSum (setReservation (onSum t) t) := by
    rw [onSum_setReservation, setReservation_reservation]
  generalize onSum t = r at hsum ⊢
  exact ⟨h.record, h.joinOrder, hsum, h.orderCount, hslots, hupi, honly.setReservation _, hhanded⟩

/-- What is left of the waiting list and of R is in order. -/
theorem RetiredAll.loadsListed {old : AuxTable} {l : List LoadIx} {s t : State} (h : RetiredAll old l s t)
    (hp : ∀ i, PlaceLegal s i) (hn : s.axs.joinOrder.Nodup) : LoadsListed (setReservation (onSum t) t) := by
  refine ⟨?_, fun i hi => ?_, ?_⟩
  · rw [setReservation_joinOrder, h.joinOrder]
    exact hn.filter _
  · rw [setReservation_joinOrder, h.joinOrder, List.mem_filter, decide_eq_true_eq] at hi
    rw [loadRec_setReservation, h.record, if_neg hi.2]
    exact (hp i).1 hi.1
  · rw [onSum_setReservation, setReservation_reservation]

end Sys2Proof.Machine
end

section
/-! TABLE_COMMIT (R172): the judgements, and what each owner's swap leaves. -/

namespace Sys2Proof.Machine

/-! ### The aux table (R128) -/

theorem OnlyAux.withHanded {s t : State} (h : OnlyAux s t) (events : List Instr) :
    OnlyAux s { t with handed := events } := by
  obtain ⟨hstate, haxs⟩ := h
  exact ⟨(congrArg (fun u : State => { u with handed := events }) hstate).trans rfl, haxs⟩

/-- What AXS may change, with lane 2 told whole. -/
theorem OnlyAux.frame {s t : State} (h : OnlyAux s t) : t = { s with
    axs := t.axs, dec.lanes := t.dec.lanes, dec.tHeld := t.dec.tHeld, upi := t.upi, handed := t.handed } := by
  have hlanes : t.dec.lanes = { s.dec.lanes with slots := t.dec.lanes.slots } :=
    (congrArg (fun u : State => u.dec.lanes) h.1).trans rfl
  refine h.1.trans ?_
  rw [← hlanes]

theorem placeLegal_of_loadsLegal {s : State} (h : LoadsLegal s) (i : LoadIx) : PlaceLegal s i := by
  obtain ⟨-, -, hload⟩ := h
  obtain ⟨hlist, htime, -⟩ := hload i
  exact ⟨hlist.mp, htime.mp⟩

theorem only_admissionPass {s : State} (h : LoadsListed s) : OnlyAux s (admissionPass s) := by
  rw [admissionPass_eq h.nodup]
  exact only_admitAll _ s

/-- Exclusion and shed touch ON loads alone. -/
theorem loadRec_excludeAndShed_of_ne_on {s : State} {i : LoadIx} (h : (loadRec s i).state ≠ .on) :
    loadRec (excludeAndShed s) i = loadRec s i := by
  rw [excludeAndShed_eq, loadRec_shedAll _ s (nodup_causedPlan s), if_neg fun hi => h (on_of_mem_causedPlan i hi)]

/-- A pass touches listed loads alone. -/
theorem loadRec_admissionPass_of_not_mem {s : State} (h : LoadsListed s) {i : LoadIx} (hi : i ∉ s.axs.joinOrder) :
    loadRec (admissionPass s) i = loadRec s i := by
  rw [admissionPass_eq h.nodup, loadRec_admitAll _ s (nodup_admittedLoads h.nodup),
    if_neg fun hm => hi (mem_joinOrder_of_admitted hm)]

/-- Neither a shed nor a pass brings back an OFF load. -/
theorem loadRec_review_of_off {s : State} (h : LoadsListed s) {i : LoadIx} (hi : (loadRec s i).state = .off) :
    loadRec (admissionPass (excludeAndShed s)) i = loadRec s i := by
  have hshed := loadRec_excludeAndShed_of_ne_on (s := s) (i := i) (by simp [hi])
  rw [loadRec_admissionPass_of_not_mem h.excludeAndShed, hshed]
  intro hm
  have hplace := h.excludeAndShed.place i hm
  rw [hshed, hi] at hplace
  simp at hplace

/-- R128 in its steps, from a state whose loads stand in order. -/
structure AuxSwapped (new : AuxTable) (s s2 s3 t : State) : Prop where
  retired : RetiredBy s.axs.active { s with axs.active := new } s2
  shed    : ShedBy (shedPlan s2) s2 s3
  passed  : Passed s3 { t with handed := s3.handed }
  hands   : HandsReservation s.handed s t
  active  : t.axs.active = new
  sum     : t.axs.reservation = onSum t
  within  : LoadsWithinRecord t
  off     : ∀ i : LoadIx, new[i].valid = false → (loadRec t i).state = .off ∧ (loadRec t i).requested = false
  only    : OnlyAux { s with axs.active := new } t

/-- R128, steps 2 and 3: the state before the loads are reviewed. -/
def retired (new : AuxTable) (s : State) : State :=
  let s1 := retiredLoads s.axs.active { s with axs.active := new }
  setReservation (onSum s1) s1

theorem swapAux_eq (new : AuxTable) (s : State) :
    swapAux new s = handReservation s.axs.reservation (admissionPass (excludeAndShed (retired new s))) := by
  simp only [swapAux, retired, retiredLoads, setReservation]

theorem handReservation_frame (before : Nat) (s : State) :
    ∃ events, handReservation before s = { s with handed := events } := by
  unfold handReservation
  split
  · exact ⟨s.handed, rfl⟩
  · exact ⟨_, rfl⟩

/-- A load with an invalid entry is OFF and not requested after step 2, and stays so. -/
theorem off_of_retiredBy {old : AuxTable} {s s2 : State} (h : RetiredBy old s s2) (hl : LoadsListed s2) {i : LoadIx}
    (hi : (auxEntry s i).valid = false) :
    (loadRec (admissionPass (excludeAndShed s2)) i).state = .off ∧
      (loadRec (admissionPass (excludeAndShed s2)) i).requested = false := by
  obtain ⟨hrec, -⟩ := h
  have hrec' : loadRec s2 i = retiredRec old[i] (loadRec s i) := (hrec i).trans (if_pos (mem_invalidLoads.mpr hi))
  have hoff : (loadRec s2 i).state = .off := by rw [hrec']; rfl
  rw [loadRec_review_of_off hl hoff]
  exact ⟨hoff, by rw [hrec']; rfl⟩

theorem auxSwapped_swapAux (new : AuxTable) {s : State} (hp : ∀ i, PlaceLegal s i) (hn : s.axs.joinOrder.Nodup) :
    ∃ s2 s3, AuxSwapped new s s2 s3 (swapAux new s) := by
  have hall := retiredAll_retiredLoads s.axs.active (s := { s with axs.active := new }) hp
  have h2 : RetiredBy s.axs.active { s with axs.active := new } (retired new s) := hall.retiredBy
  have hl2 : LoadsListed (retired new s) := hall.loadsListed hp hn
  rw [swapAux_eq]
  generalize retired new s = s2 at h2 hl2 ⊢
  have hl3 := hl2.excludeAndShed
  have hshed := excludeAndShed_shedBy s2
  have hpassed := admissionPass_passed hl3.nodup
  have hsum := hl3.admissionPass.sum
  have hwithin := loadsWithinRecord_review hl2
  have hoff := fun (i : LoadIx) (hi : new[i].valid = false) => off_of_retiredBy h2 hl2 (i := i) hi
  have ⟨_, _, _, _, _, _, honly2, hhanded2⟩ := h2
  have ⟨_, _, _, _, _, _, _, hhanded3⟩ := hshed
  have ⟨_, _, _, _, _, _, _, hhanded⟩ := hpassed
  have honly := (honly2.trans (only_excludeAndShed s2)).trans (only_admissionPass hl3)
  refine ⟨s2, excludeAndShed s2, ?_⟩
  generalize admissionPass (excludeAndShed s2) = t at *
  obtain ⟨hhands, hsame⟩ := handReservation_spec s t
  obtain ⟨events, hframe⟩ := handReservation_frame s.axs.reservation t
  refine ⟨h2, hshed, ?_, ?_, ?_, ?_, ?_, ?_, ?_⟩
  · rw [← hhanded, hsame]
    exact hpassed
  · rw [hhanded, hhanded3, hhanded2] at hhands
    exact hhands
  all_goals rw [hframe]
  · exact honly.active
  · exact hsum
  · exact hwithin
  · exact hoff
  · exact honly.withHanded events

end Sys2Proof.Machine
end

section
/-! TABLE_COMMIT (R172) case by case. -/

namespace Sys2Proof.Machine

/-! ### The judgements -/

theorem commitTable_notOpen {t : TableId} {source : Node} {s : State}
    (h : s.mge.openTable.map OpenTable.table ≠ some t) : commitTable source t s = (s, plain .notOpen) := by
  simp only [commitTable, ownerCheck_notOpen h]

section Open

variable {t : TableId} {source : Node} {s : State} {o : OpenTable} (ho : s.mge.openTable = some o) (ht : o.table = t)

include ho ht

theorem commitTable_notOwner (hw : o.owner ≠ source) : commitTable source t s = (s, plain .notOwner) := by
  simp only [commitTable, ownerCheck_notOwner ho ht hw]

variable (hw : o.owner = source)

include hw

theorem commitTable_invalid {i : Nat} (hb : firstBad t s = some i) : commitTable source t s =
    ({ s with mge.openTable := some { o with tOpen := tOpen s.mge.params } },
      { status := .invalidTable, fields := [BitVec.ofNat 8 i] }) := by
  simp only [commitTable, ownerCheck_ok ho ht hw, hb, restartOpenTimer_open ho]

theorem commitTable_swapped {status : Status} {after : State} (hb : firstBad t s = none)
    (hs : swapTable t (closeTable s) = (after, status)) : commitTable source t s = (after, plain status) := by
  simp only [commitTable, ownerCheck_ok ho ht hw, hb, hs]

end Open

/-! ### The section table (R14) -/

theorem swapSection_gap (new : SectionTable) {s : State} (h : isGap s.sct.view.kind = true) :
    swapSection new s = ({ s with sct.pendingTbl := some new }, .deferred) := by
  simp only [swapSection, h, if_true]

theorem swapSection_unknown (new : SectionTable) {s : State} (h : isGap s.sct.view.kind = false)
    (hp : s.sct.position = none) : swapSection new s = ({ s with sct.active := new }, .ok) := by
  simp only [swapSection, h, Bool.false_eq_true, if_false, hp]

theorem swapSection_known (new : SectionTable) {s : State} {position : Byte × Half} (h : isGap s.sct.view.kind = false)
    (hp : s.sct.position = some position) :
    swapSection new s = (lookupAndPublish { s with sct.active := new }, .ok) := by
  simp only [swapSection, h, Bool.false_eq_true, if_false, hp]

/-- The match and the view that a table gives the position are looked up in it and published by R6. -/
theorem lookupAndPublish_swapped (new : SectionTable) {s : State} {route : Byte} {c : Half}
    (hp : s.sct.position = some (route, c)) :
    let m := lookupSection new route c
    lookupAndPublish { s with sct.active := new } =
      publishView (viewOfMatch s.mge.params new m) { s with sct.active := new, sct.matched := m } := by
  intro m
  have hm : matchStored { s with sct.active := new } = m := by simp only [matchStored, hp, m]
  rw [lookupAndPublish, hm, computeView]
  simp only [matchStored, hp]
  rfl

theorem publishView_position {v : View} {s : State} {position : Option (Byte × Half)} (hp : s.sct.position = position) :
    publishView v s = if v = s.sct.view then { s with sct.view := v }
      else placeNotice (1 :: viewBlock v position s.sct.matched)
        { s with sct.view := v, handed := s.handed ++ viewEvents v } := by
  subst hp
  split
  · rename_i h
    subst h
    exact publishView_same s
  · rename_i h
    exact ((publishView_spec v s).resolve_left fun e => h e.1).2

theorem PlaceLegal.congr {s t : State} {i : LoadIx} (h : PlaceLegal s i) (ha : t.axs = s.axs) : PlaceLegal t i := by
  rw [PlaceLegal, loadRec, ha]
  exact h

/-- Settles O50: the judgements of R172 in their order, and then each owner's swap. -/
theorem tableCommitted : Obligations.TableCommitted := by
  intro q table s s1 hover ht hargs
  have hbody : ∀ {status fields after}, commitTable q.source table s1 = (after, { status := status, fields := fields }) →
      Answered .tableCommit q s status fields after := fun hb => by
    refine answered_of_body rfl hover ht ?_
    rw [hargs, tableBody_tableCode]
    exact hb
  obtain ⟨queue, hs1⟩ := taken_frame ht
  have hfirst : firstBad table s1 = firstBad table s := by rw [hs1]; cases table <;> rfl
  have hopen : s1.mge.openTable = s.mge.openTable := by rw [hs1]
  have hparams : s1.mge.params = s.mge.params := by rw [hs1]
  have hshadow : s1.mge.shadow = s.mge.shadow := by rw [hs1]
  have hsct : s1.sct = s.sct := by rw [hs1]
  have haxs : s1.axs = s.axs := by rw [hs1]
  have hpwu : s1.pwu = s.pwu := by rw [hs1]
  have hdec : s1.dec = s.dec := by rw [hs1]
  clear hs1
  rw [← hopen, ← hparams, ← hfirst]
  refine ⟨fun h => hbody (commitTable_notOpen h), fun o ho htab => ?_⟩
  intro closed
  refine ⟨fun hw => hbody (commitTable_notOwner ho htab hw),
    fun i hw hb => hbody (commitTable_invalid ho htab hw hb), fun hw hb => ?_⟩
  have hswap : ∀ {status after}, swapTable table closed = (after, status) → Answered .tableCommit q s status [] after :=
    fun hs => hbody (commitTable_swapped ho htab hw hb hs)
  refine ⟨?sectionTable, ?auxTable, ?profileTable, ?paramTable, ?classTable⟩
  case sectionTable =>
    rintro new rfl hnew
    rw [← hsct] at hnew ⊢
    have hsections : swapTable .sections closed = swapSection new closed := by
      simp only [swapTable, closed, hnew, Option.getD_some]
    refine ⟨fun hg => hswap (hsections.trans (swapSection_gap new hg)),
      fun hg hp => hswap (hsections.trans (swapSection_unknown new hg hp)), fun route c hg hp => ?_⟩
    intro m v after
    have hknown := hsections.trans (swapSection_known (s := closed) new hg hp)
    rw [lookupAndPublish_swapped (s := closed) new hp,
      publishView_position (s := { closed with sct.active := new, sct.matched := m }) hp] at hknown
    exact hswap hknown
  case auxTable =>
    rintro new rfl hnew hlegal
    have hplace : ∀ i, PlaceLegal closed i := fun i => (placeLegal_of_loadsLegal hlegal i).congr haxs
    obtain ⟨hsum, hnodup, hloads⟩ := hlegal
    have hn : closed.axs.joinOrder.Nodup := by
      change s1.axs.joinOrder.Nodup
      rw [haxs]
      exact hnodup
    obtain ⟨s2, s3, hretired, hshed, hpassed, hhands, hactive, hres, hwithin, hoff, honly⟩ :=
      auxSwapped_swapAux new hplace hn
    rw [← haxs] at hnew ⊢
    have haux : swapTable .aux closed = (swapAux new closed, .ok) := by
      simp only [swapTable, closed, hnew, Option.getD_some]
    refine ⟨s2, s3, swapAux new closed, hswap haux, hretired, hshed, hpassed, ?_, hactive, hres, hwithin, hoff, ?_⟩
    · rw [HandsReservation, ← haxs]
      exact hhands
    · exact honly.frame.trans rfl
  case profileTable =>
    rintro new rfl hnew
    rw [← hpwu] at hnew
    refine hswap ?_
    simp only [swapTable, closed, hnew, Option.getD_some]
  case paramTable =>
    rintro new rfl hnew
    rw [← hshadow] at hnew
    refine hswap ?_
    simp only [swapTable, closed, hnew, Option.getD_some, swapParams, hand]
  case classTable =>
    rintro new rfl hnew
    rw [← hdec] at hnew
    refine hswap ?_
    simp only [swapTable, closed, hnew, Option.getD_some]

end Sys2Proof.Machine
end

section
/-! The Pole Watch Unit's own events: what of the state they can change, and what one accepted sample can do (R23 to R32). -/

namespace Sys2Proof.Machine

/-! ### What an event of PWU's own can change -/

/-- `t` is `s` after an event on some poles: their channels and command slots have changed, these events are handed over,
and nothing else is different. -/
structure PolesActed (poles : List Pole) (s t : State) (events : List Instr) : Prop where
  kept  : ∀ q, q ∉ poles → channel t q = channel s q ∧ slot t q = slot s q
  pwu   : t.pwu = { s.pwu with chP := t.pwu.chP, chN := t.pwu.chN }
  pli   : t.pli = { s.pli with slotP := t.pli.slotP, slotN := t.pli.slotN }
  frame : t = { s with pwu := t.pwu, pli := t.pli, handed := t.handed }
  hands : t.handed = s.handed ++ events

theorem PolesActed.refl (poles : List Pole) (s : State) : PolesActed poles s s [] :=
  ⟨fun _ _ => ⟨rfl, rfl⟩, rfl, rfl, rfl, by simp⟩

theorem PolesActed.trans {l : List Pole} {s t u : State} {a b : List Instr} (h : PolesActed l s t a)
    (k : PolesActed l t u b) : PolesActed l s u (a ++ b) where
  kept q hq := ⟨(k.kept q hq).1.trans (h.kept q hq).1, (k.kept q hq).2.trans (h.kept q hq).2⟩
  pwu := by rw [k.pwu, h.pwu]
  pli := by rw [k.pli, h.pli]
  frame := by rw [k.frame, h.frame]
  hands := by rw [k.hands, h.hands, List.append_assoc]

theorem PolesActed.mono {l m : List Pole} {s t : State} {a : List Instr} (h : PolesActed l s t a) (hl : l ⊆ m) :
    PolesActed m s t a :=
  ⟨fun q hq => h.kept q fun hm => hq (hl hm), h.pwu, h.pli, h.frame, h.hands⟩

section Acted

variable {poles : List Pole} {s t : State} {events : List Instr} (h : PolesActed poles s t events)

include h

theorem PolesActed.ms : t.ms = s.ms := (congrArg State.ms h.frame).trans rfl
theorem PolesActed.mge : t.mge = s.mge := (congrArg State.mge h.frame).trans rfl
theorem PolesActed.view : t.pwu.view = s.pwu.view := (congrArg Pwu.view h.pwu).trans rfl
theorem PolesActed.active : t.pwu.active = s.pwu.active := (congrArg Pwu.active h.pwu).trans rfl

end Acted

theorem PolesActed.onlyPole {pole : Pole} {s t : State} {events : List Instr} (h : PolesActed [pole] s t events) :
    OnlyPole pole s t := ⟨fun q hq => h.kept q (by simpa using hq), h.pwu, h.pli⟩

theorem acted_setChannel (pole : Pole) (c : Channel) (s : State) : PolesActed [pole] s (setChannel pole c s) [] where
  kept q hq := ⟨channel_setChannel_other s pole q c (by simpa using hq), slot_setChannel s pole q c⟩
  pwu := by cases pole <;> rfl
  pli := by cases pole <;> rfl
  frame := by cases pole <;> rfl
  hands := by simp

theorem acted_requestCommand (pole : Pole) (cmd : RetrieverCmd) (s : State) :
    PolesActed [pole] s (requestCommand pole cmd s) [] where
  kept q hq := ⟨(requestCommand_spec pole cmd s).2.2 q, (requestCommand_spec pole cmd s).2.1 q (by simpa using hq)⟩
  pwu := by cases pole <;> rfl
  pli := by cases pole <;> rfl
  frame := by cases pole <;> rfl
  hands := by simp

theorem acted_hand (poles : List Pole) (events : List Instr) (s : State) : PolesActed poles s (hand events s) events :=
  ⟨fun q _ => ⟨channel_hand s events q, slot_hand s events q⟩, rfl, rfl, rfl, rfl⟩

/-! ### The operations on one pole -/

theorem slot_requestCommand (pole : Pole) (cmd : RetrieverCmd) (s : State) :
    slot (requestCommand pole cmd s) pole = commanded cmd pole s := (requestCommand_spec pole cmd s).1

@[simp] theorem channel_requestCommand (pole q : Pole) (cmd : RetrieverCmd) (s : State) :
    channel (requestCommand pole cmd s) q = channel s q := (requestCommand_spec pole cmd s).2.2 q

/-- R32, R33: a retrieval under way. -/
theorem acted_startRetrieval (pole : Pole) (s : State) : PolesActed [pole] s (startRetrieval pole s) [] :=
  (acted_requestCommand pole .pullDown s).trans (acted_setChannel pole _ _)

theorem channel_startRetrieval (pole : Pole) (s : State) : channel (startRetrieval pole s) pole =
    { channel s pole with state := .retrieving, tRetr := some (tRetr s.mge.params) } := by simp [startRetrieval]

theorem slot_startRetrieval (pole : Pole) (s : State) :
    slot (startRetrieval pole s) pole = commanded .pullDown pole s := by simp [startRetrieval, slot_requestCommand]

theorem acted_enterDropped (pole : Pole) (s : State) :
    PolesActed [pole] s (enterDropped pole s) [dropRaise pole s] := by
  have hraised : PolesActed [pole] s _ [dropRaise pole s] :=
    (acted_setChannel pole { channel s pole with
      state := .dropped, tRaise := none, suspect := 0, good := 0,
      lastDropActed := decide ((channel s pole).mask = .autonomous) } s).trans (acted_hand [pole] [dropRaise pole s] _)
  unfold enterDropped
  dsimp only
  split
  · exact hraised.trans (acted_startRetrieval pole _)
  · exact hraised

/-- R32: a dropped channel, retrieved at once under AUTONOMOUS. -/
theorem channel_enterDropped (pole : Pole) (s : State) : channel (enterDropped pole s) pole =
    if (channel s pole).mask = .autonomous then
      { channel s pole with state := .retrieving, tRaise := none, suspect := 0, good := 0, lastDropActed := true,
                            tRetr := some (tRetr s.mge.params) }
    else { channel s pole with state := .dropped, tRaise := none, suspect := 0, good := 0, lastDropActed := false } := by
  unfold enterDropped
  split <;> simp_all [channel_startRetrieval]

theorem acted_enterOnWire (pole : Pole) (s : State) :
    PolesActed [pole] s (enterOnWire pole s) [.alarmClear (.poleDrop pole)] :=
  (acted_setChannel pole _ s).trans (acted_hand _ _ _)

@[simp] theorem channel_enterOnWire (pole : Pole) (s : State) : channel (enterOnWire pole s) pole =
    { channel s pole with state := .onWire, suspect := 0, good := 0, tRaise := none } := by simp [enterOnWire]

/-- R35, R37: a pole is pulled down. -/
theorem acted_startLowering (pole : Pole) (s : State) :
    PolesActed [pole] s (startLowering pole s) [.poleReport pole .lowering true] :=
  ((acted_requestCommand pole .pullDown s).trans (acted_setChannel pole _ _)).trans (acted_hand _ _ _)

/-- R34: a pole is released. -/
theorem acted_startRaise (pole : Pole) (s : State) :
    PolesActed [pole] s (startRaise pole s) [.poleReport pole .raising true] :=
  ((acted_requestCommand pole .release s).trans (acted_setChannel pole _ _)).trans (acted_hand _ _ _)

/-! ### What one sample can do (R25 to R31) -/

/-- The state after the transition that a sample makes from `s`, and the requests it hands over. -/
inductive SampleOutcome (pole : Pole) (s : State) : State → List Instr → Prop
  | kept (h : (channel s pole).state = .stowed ∨ (channel s pole).state = .retrieving ∨
      (channel s pole).state = .lowering) : SampleOutcome pole s s []
  | drops (h : (channel s pole).state ≠ .dropped ∧ (channel s pole).state ≠ .retrieving ∧
      (channel s pole).state ≠ .lowering) : SampleOutcome pole s (enterDropped pole s) [dropRaise pole s]
  | wires (h : (channel s pole).state = .unknown ∨ (channel s pole).state = .lost ∨
      (channel s pole).state = .raising ∨ (channel s pole).state = .dropped) :
      SampleOutcome pole s (enterOnWire pole s) [.alarmClear (.poleDrop pole)]
  | stows (good : Nat) (requests : List Instr)
      (h : ((channel s pole).state = .unknown ∨ (channel s pole).state = .lost) ∧ good = (channel s pole).good ∨
        (channel s pole).state = .dropped ∧ good = 0) :
      SampleOutcome pole s
        (hand requests (setChannel pole { channel s pole with state := .stowed, good := good } s)) requests
  | hooks (requests : List Instr)
      (h : (channel s pole).state = .retrieving ∨ (channel s pole).state = .lowering) :
      SampleOutcome pole s (hand requests (requestCommand pole .hold
        (setChannel pole { channel s pole with state := .stowed, tRetr := none } s))) requests
  | runs (state : PoleState) (count : Nat) (h : (channel s pole).state = .onWire ∨ (channel s pole).state = .suspect)
      (hs : state = .onWire ∧ count = 0 ∨ state = .suspect) :
      SampleOutcome pole s (setChannel pole { channel s pole with state := state, suspect := count } s) []
  | counts (good : Nat) (h : (channel s pole).state = .raising ∨ (channel s pole).state = .dropped) :
      SampleOutcome pole s (setChannel pole { channel s pole with good := good } s) []

theorem resolveChannel_outcome {pole : Pole} {s : State} (e : ProfileEntry) (angle : Nat) (contact hook : Bool)
    (h : (channel s pole).state = .unknown ∨ (channel s pole).state = .lost) :
    ∃ requests, SampleOutcome pole s (resolveChannel pole e angle contact hook s) requests := by
  unfold resolveChannel
  split
  · exact ⟨_, .stows _ _ (.inl ⟨h, rfl⟩)⟩
  · split
    · exact ⟨_, .wires (by tauto)⟩
    · exact ⟨_, .drops (by rcases h with h | h <;> simp [h])⟩

theorem stowedOnSample_outcome {pole : Pole} {s : State} (e : ProfileEntry) (angle : Nat) (hook : Bool)
    (h : (channel s pole).state = .stowed) :
    ∃ requests, SampleOutcome pole s (stowedOnSample pole e angle hook s) requests := by
  unfold stowedOnSample
  split
  · exact ⟨_, .kept (.inl h)⟩
  · exact ⟨_, .drops (by simp [h])⟩

theorem runningOnSample_outcome {pole : Pole} {s : State} (e : ProfileEntry) (angle : Nat) (contact : Bool)
    (before : Nat) (h : (channel s pole).state = .onWire ∨ (channel s pole).state = .suspect) :
    ∃ requests, SampleOutcome pole s (runningOnSample pole e angle contact before s) requests := by
  have hdrop : SampleOutcome pole s (enterDropped pole s) [dropRaise pole s] :=
    .drops (by rcases h with h | h <;> simp [h])
  unfold runningOnSample suspectTo
  split
  · exact ⟨_, hdrop⟩
  · split
    · split
      · exact ⟨_, hdrop⟩
      · exact ⟨_, .runs _ _ h (.inr rfl)⟩
    · exact ⟨_, .runs _ _ h (.inl ⟨rfl, rfl⟩)⟩

theorem raisingOnSample_outcome {pole : Pole} {s : State} (e : ProfileEntry) (angle : Nat) (contact : Bool)
    (h : (channel s pole).state = .raising) :
    ∃ requests, SampleOutcome pole s (raisingOnSample pole e angle contact s) requests := by
  unfold raisingOnSample
  dsimp only
  split
  · exact ⟨_, .drops (by simp [h])⟩
  · split
    · split
      · exact ⟨_, .wires (by simp [h])⟩
      · exact ⟨_, .counts _ (.inl h)⟩
    · exact ⟨_, .counts _ (.inl h)⟩

theorem droppedOnSample_outcome {pole : Pole} {s : State} (e : ProfileEntry) (angle : Nat) (contact hook : Bool)
    (h : (channel s pole).state = .dropped) :
    ∃ requests, SampleOutcome pole s (droppedOnSample pole e angle contact hook s) requests := by
  unfold droppedOnSample
  dsimp only
  split
  · split
    · exact ⟨_, .wires (by simp [h])⟩
    · exact ⟨_, .counts _ (.inr h)⟩
  · split
    · exact ⟨_, .stows _ _ (.inr ⟨h, rfl⟩)⟩
    · exact ⟨_, .counts _ (.inr h)⟩

theorem retrievalOnSample_outcome {pole : Pole} {s : State} (e : ProfileEntry) (angle : Nat) (hook : Bool)
    (h : (channel s pole).state = .retrieving ∨ (channel s pole).state = .lowering) :
    ∃ requests, SampleOutcome pole s (retrievalOnSample pole e angle hook s) requests := by
  unfold retrievalOnSample
  split
  · exact ⟨_, .hooks _ h⟩
  · exact ⟨_, .kept (.inr h)⟩

/-- R23, step 4: whatever the channel's state, the transition is one of these. -/
theorem judgeSample_outcome (pole : Pole) (angle : Nat) (contact hook : Bool) (s : State) :
    ∃ requests, SampleOutcome pole s (judgeSample pole angle contact hook s) requests := by
  unfold judgeSample
  cases h : (channel s pole).state with
  | unknown => exact resolveChannel_outcome _ _ _ _ (.inl h)
  | lost => exact resolveChannel_outcome _ _ _ _ (.inr h)
  | stowed => exact stowedOnSample_outcome _ _ _ h
  | onWire => exact runningOnSample_outcome _ _ _ _ (.inl h)
  | suspect => exact runningOnSample_outcome _ _ _ _ (.inr h)
  | raising => exact raisingOnSample_outcome _ _ _ h
  | dropped => exact droppedOnSample_outcome _ _ _ _ h
  | retrieving => exact retrievalOnSample_outcome _ _ _ (.inl h)
  | lowering => exact retrievalOnSample_outcome _ _ _ (.inr h)

/-- A transition is PWU's own event on its pole. -/
theorem SampleOutcome.acted {pole : Pole} {s t : State} {requests : List Instr} (h : SampleOutcome pole s t requests) :
    PolesActed [pole] s t requests := by
  cases h with
  | kept => exact .refl _ s
  | drops => exact acted_enterDropped pole s
  | wires => exact acted_enterOnWire pole s
  | stows => exact (acted_setChannel pole _ s).trans (acted_hand _ _ _)
  | hooks => exact ((acted_setChannel pole _ s).trans (acted_requestCommand pole .hold _)).trans (acted_hand _ _ _)
  | runs => exact acted_setChannel pole _ s
  | counts => exact acted_setChannel pole _ s

/-- No transition touches the act mask, T_smp or the last sample. -/
theorem SampleOutcome.keeps {pole : Pole} {s t : State} {requests : List Instr} (h : SampleOutcome pole s t requests) :
    (channel t pole).mask = (channel s pole).mask ∧ (channel t pole).tSmp = (channel s pole).tSmp ∧
      (channel t pole).last = (channel s pole).last := by
  cases h with
  | kept => exact ⟨rfl, rfl, rfl⟩
  | drops => rw [channel_enterDropped]; split <;> exact ⟨rfl, rfl, rfl⟩
  | wires => simp
  | stows => simp
  | hooks => simp
  | runs => simp
  | counts => simp

/-! ### One accepted sample (R23) -/

/-- R23, steps 1 to 3: the sample taken and stored. -/
def sampleStored (pole : Pole) (x : Sample) (s : State) : State :=
  storeSample pole x (taken (.sampleAccepted pole x) s)

/-- R23, step 4: the transition made. -/
def sampleJudged (pole : Pole) (x : Sample) (s : State) : State :=
  judgeSample pole (min x.angle.toNat 900) x.contact x.hook (sampleStored pole x s)

/-- R23, steps 5 and 6: the sample taken to its end. -/
def sampleDone (pole : Pole) (x : Sample) (s : State) : State :=
  finishSample pole x (channel s pole).state (sampleJudged pole x s)

theorem exec_sampleAccepted (pole : Pole) (x : Sample) (s : State) :
    exec (.sampleAccepted pole x) s = .next (sampleDone pole x s) := by
  rw [sampleDone, ← channel_taken s (.sampleAccepted pole x)]
  rfl

theorem channel_sampleStored (pole : Pole) (x : Sample) (s : State) : channel (sampleStored pole x s) pole =
    { channel s pole with
      last := some { seq := x.seq, angle := min x.angle.toNat 900, contact := x.contact, hook := x.hook,
                     volts := x.volts }
      tSmp := some (tSmp s.mge.params) } := by
  unfold sampleStored storeSample
  dsimp only
  split <;> simp [angleTaken, Config.maxAngle]

theorem acted_sampleStored (pole : Pole) (x : Sample) (s : State) :
    PolesActed [pole] (taken (.sampleAccepted pole x) s) (sampleStored pole x s)
      (if (channel s pole).state = .lost then [.alarmClear (.sensorLost pole)] else []) := by
  have hset := acted_setChannel pole (channel (sampleStored pole x s) pole) (taken (.sampleAccepted pole x) s)
  rw [channel_sampleStored] at hset
  unfold sampleStored storeSample
  simp only [channel_taken]
  split
  · exact hset.trans (acted_hand _ _ _)
  · exact hset

theorem slot_sampleStored (pole q : Pole) (x : Sample) (s : State) :
    slot (sampleStored pole x s) q = slot s q := by
  unfold sampleStored storeSample
  dsimp only
  split <;> simp

theorem activeProfile_sampleStored (pole : Pole) (x : Sample) (s : State) :
    activeProfile (sampleStored pole x s) = activeProfile s := by
  unfold activeProfile
  have h := acted_sampleStored pole x s
  simp only [h.view, h.active, taken_pwu]

theorem channel_sampleDone (pole : Pole) (x : Sample) (s : State) : channel (sampleDone pole x s) pole =
    { channel (sampleJudged pole x s) pole with prevAngle := some (min x.angle.toNat 900) } := by
  simp [sampleDone, finishSample, angleTaken, Config.maxAngle]

theorem slot_sampleDone (pole q : Pole) (x : Sample) (s : State) :
    slot (sampleDone pole x s) q = slot (sampleJudged pole x s) q := by
  simp [sampleDone, finishSample]

theorem acted_finishSample (pole : Pole) (x : Sample) (before : PoleState) (s : State) :
    PolesActed [pole] s (finishSample pole x before s) [.voltageSample pole x.volts,
      .poleReport pole (channel s pole).state (decide ((channel s pole).state ≠ before))] :=
  (acted_setChannel pole _ s).trans (acted_hand _ _ _)

theorem acted_sampleDone {pole : Pole} {x : Sample} {s : State} {requests : List Instr}
    (h : PolesActed [pole] (sampleStored pole x s) (sampleJudged pole x s) requests) :
    PolesActed [pole] (taken (.sampleAccepted pole x) s) (sampleDone pole x s)
      ((if (channel s pole).state = .lost then [.alarmClear (.sensorLost pole)] else []) ++ requests ++
        [.voltageSample pole x.volts, .poleReport pole (channel (sampleDone pole x s) pole).state
          (decide ((channel (sampleDone pole x s) pole).state ≠ (channel s pole).state))]) := by
  rw [channel_sampleDone]
  exact ((acted_sampleStored pole x s).trans h).trans (acted_finishSample pole x _ _)

theorem sampleHands_sampleDone {pole : Pole} {x : Sample} {s : State} {requests : List Instr}
    (h : PolesActed [pole] (sampleStored pole x s) (sampleJudged pole x s) requests) :
    SampleHands pole x s (sampleDone pole x s) requests := by
  simpa [SampleHands, List.append_assoc] using (acted_sampleDone h).hands

/-- Settles O8: whatever the transition, the sample is stored before it and becomes the previous angle after it. -/
theorem sampleIsStored : Obligations.SampleIsStored := by
  intro pole x s
  obtain ⟨requests, hout⟩ := judgeSample_outcome pole (min x.angle.toNat 900) x.contact x.hook (sampleStored pole x s)
  obtain ⟨hmask, hsmp, hlast⟩ := hout.keeps
  have hacted := acted_sampleDone (x := x) hout.acted
  rw [channel_sampleStored] at hmask hsmp hlast
  refine ⟨_, exec_sampleAccepted pole x s, ?_, ?_, ?_, ?_, ⟨requests, sampleHands_sampleDone hout.acted⟩,
    hacted.onlyPole, hacted.frame⟩
  · rw [channel_sampleDone]; exact hlast
  · rw [channel_sampleDone]
  · rw [channel_sampleDone]; exact hsmp
  · rw [channel_sampleDone]; exact hmask

end Sys2Proof.Machine
end

section
/-! One accepted sample, case by case (R25 to R32): each transition function as an equation per case, and what the end of
the sample leaves of each transition. -/

namespace Sys2Proof.Machine

/-! ### The transition functions, an equation per case -/

section Cases

variable {pole : Pole} {e : ProfileEntry} {angle : Nat} {contact hook : Bool} {s : State}

theorem resolveChannel_stows (h : Stows e angle hook) : resolveChannel pole e angle contact hook s =
    hand [.alarmClear (.poleDrop pole), .alarmClear (.retrieveFail pole)]
      (setChannel pole { channel s pole with state := .stowed } s) := if_pos ((stowedSample_iff e angle hook).mpr h)

theorem resolveChannel_wires (h : ¬ Stows e angle hook) (hb : InBand e angle) (hc : contact = true) :
    resolveChannel pole e angle contact hook s = enterOnWire pole s := by
  simp only [resolveChannel, stowedSample_iff, Bool.and_eq_true, inBand_iff, h, hb, hc, if_false, if_true, and_self]

theorem resolveChannel_drops (h : ¬ Stows e angle hook) (hb : ¬ (InBand e angle ∧ contact = true)) :
    resolveChannel pole e angle contact hook s = enterDropped pole s := by
  simp only [resolveChannel, stowedSample_iff, Bool.and_eq_true, inBand_iff, h, hb, if_false]

theorem stowedOnSample_kept (h : hook = true ∨ angle ≤ e.stowedMax.toNat) : stowedOnSample pole e angle hook s = s :=
  if_pos (by simpa using h)

theorem stowedOnSample_drops (hh : hook = false) (ha : e.stowedMax.toNat < angle) :
    stowedOnSample pole e angle hook s = enterDropped pole s := if_neg (by simp [hh, ha])

theorem retrievalOnSample_hooks (h : Stows e angle hook) : retrievalOnSample pole e angle hook s =
    hand [.alarmClear (.poleDrop pole), .alarmClear (.retrieveFail pole)] (requestCommand pole .hold
      (setChannel pole { channel s pole with state := .stowed, tRetr := none } s)) :=
  if_pos ((stowedSample_iff e angle hook).mpr h)

theorem retrievalOnSample_kept (h : ¬ Stows e angle hook) : retrievalOnSample pole e angle hook s = s :=
  if_neg fun k => h ((stowedSample_iff e angle hook).mp k)

section Running

variable {before : Nat}

theorem runningOnSample_drops (h : FastRise e (channel s pole).prevAngle angle ∨
    Suspicious e s.pwu.view.kind angle contact ∧ e.confirm.toNat ≤ before + 1) :
    runningOnSample pole e angle contact before s = enterDropped pole s := by
  by_cases hf : FastRise e (channel s pole).prevAngle angle
  · simp only [runningOnSample, fastRise_iff, hf, if_true]
  · obtain ⟨hb, hk⟩ := h.resolve_left hf
    simp only [runningOnSample, suspectTo, fastRise_iff, suspicious_iff, hf, hb, hk, if_true, if_false]

theorem runningOnSample_suspects (hf : ¬ FastRise e (channel s pole).prevAngle angle)
    (hb : Suspicious e s.pwu.view.kind angle contact) (hk : before + 1 < e.confirm.toNat) :
    runningOnSample pole e angle contact before s =
      setChannel pole { channel s pole with state := .suspect, suspect := before + 1 } s := by
  simp only [runningOnSample, suspectTo, fastRise_iff, suspicious_iff, hf, hb, Nat.not_le.mpr hk, if_true, if_false]

theorem runningOnSample_clean (hf : ¬ FastRise e (channel s pole).prevAngle angle)
    (hb : ¬ Suspicious e s.pwu.view.kind angle contact) : runningOnSample pole e angle contact before s =
      setChannel pole { channel s pole with state := .onWire, suspect := 0 } s := by
  simp only [runningOnSample, fastRise_iff, suspicious_iff, hf, hb, if_false]

end Running

theorem highAngle_iff : highAngle e angle = true ↔ e.drop.toNat ≤ angle := decide_eq_true_iff

/-- A good sample is neither high nor a fast rise (R24). -/
theorem Good.not_dropping {prev : Option Nat} (h : Good e prev angle contact) :
    ¬ (e.drop.toNat ≤ angle ∨ FastRise e prev angle) := fun k => k.elim h.2.1.2.not_ge h.2.2

theorem raisingOnSample_drops (h : e.drop.toNat ≤ angle ∨ FastRise e (channel s pole).prevAngle angle) :
    raisingOnSample pole e angle contact s = enterDropped pole s := by
  simp only [raisingOnSample, Bool.or_eq_true, highAngle_iff, fastRise_iff, h, if_true]

theorem raisingOnSample_wires (h : Good e (channel s pole).prevAngle angle contact)
    (hk : e.confirm.toNat ≤ (channel s pole).good + 1) :
    raisingOnSample pole e angle contact s = enterOnWire pole s := by
  simp only [raisingOnSample, Bool.or_eq_true, highAngle_iff, fastRise_iff, goodSample_iff, h.not_dropping, h, hk, if_true,
    if_false]

theorem raisingOnSample_counts (h : ¬ (e.drop.toNat ≤ angle ∨ FastRise e (channel s pole).prevAngle angle))
    (hk : ¬ (Good e (channel s pole).prevAngle angle contact ∧ e.confirm.toNat ≤ (channel s pole).good + 1)) :
    raisingOnSample pole e angle contact s = setChannel pole { channel s pole with
      good := if goodSample e (channel s pole).prevAngle angle contact then (channel s pole).good + 1 else 0 } s := by
  by_cases hg : Good e (channel s pole).prevAngle angle contact
  · have hk' : ¬ e.confirm.toNat ≤ (channel s pole).good + 1 := fun k => hk ⟨hg, k⟩
    simp only [raisingOnSample, Bool.or_eq_true, highAngle_iff, fastRise_iff, goodSample_iff, h, hg, hk', if_true, if_false]
  · simp only [raisingOnSample, Bool.or_eq_true, highAngle_iff, fastRise_iff, goodSample_iff, h, hg, if_false]

theorem droppedOnSample_wires (h : Good e (channel s pole).prevAngle angle contact)
    (hk : e.confirm.toNat ≤ (channel s pole).good + 1) :
    droppedOnSample pole e angle contact hook s = enterOnWire pole s := by
  simp only [droppedOnSample, goodSample_iff, h, hk, if_true]

theorem droppedOnSample_counts (h : Good e (channel s pole).prevAngle angle contact)
    (hk : (channel s pole).good + 1 < e.confirm.toNat) : droppedOnSample pole e angle contact hook s =
      setChannel pole { channel s pole with good := (channel s pole).good + 1 } s := by
  simp only [droppedOnSample, goodSample_iff, h, Nat.not_le.mpr hk, if_true, if_false]

theorem droppedOnSample_stows (h : ¬ Good e (channel s pole).prevAngle angle contact) (hs : Stows e angle hook) :
    droppedOnSample pole e angle contact hook s = hand [.alarmClear (.poleDrop pole)]
      (setChannel pole { channel s pole with state := .stowed, good := 0 } s) := by
  simp only [droppedOnSample, goodSample_iff, stowedSample_iff, h, hs, if_true, if_false]

theorem droppedOnSample_restarts (h : ¬ Good e (channel s pole).prevAngle angle contact) (hs : ¬ Stows e angle hook) :
    droppedOnSample pole e angle contact hook s = setChannel pole { channel s pole with good := 0 } s := by
  simp only [droppedOnSample, goodSample_iff, stowedSample_iff, h, hs, if_false]

end Cases

/-! ### The transition that the channel's state calls for (R23, step 4) -/

section Judged

variable {pole : Pole} {x : Sample} {s : State}

theorem sampleJudged_unresolved (h : (channel s pole).state = .unknown ∨ (channel s pole).state = .lost) :
    sampleJudged pole x s =
      resolveChannel pole (activeProfile s) (min x.angle.toNat 900) x.contact x.hook (sampleStored pole x s) := by
  rcases h with h | h <;> simp only [sampleJudged, judgeSample, channel_sampleStored, activeProfile_sampleStored, h]

theorem sampleJudged_stowed (h : (channel s pole).state = .stowed) : sampleJudged pole x s =
    stowedOnSample pole (activeProfile s) (min x.angle.toNat 900) x.hook (sampleStored pole x s) := by
  simp only [sampleJudged, judgeSample, channel_sampleStored, activeProfile_sampleStored, h]

theorem sampleJudged_retrieving (h : (channel s pole).state = .retrieving ∨ (channel s pole).state = .lowering) :
    sampleJudged pole x s =
      retrievalOnSample pole (activeProfile s) (min x.angle.toNat 900) x.hook (sampleStored pole x s) := by
  rcases h with h | h <;> simp only [sampleJudged, judgeSample, channel_sampleStored, activeProfile_sampleStored, h]

theorem sampleJudged_running (h : (channel s pole).state = .onWire ∨ (channel s pole).state = .suspect) :
    sampleJudged pole x s = runningOnSample pole (activeProfile s) (min x.angle.toNat 900) x.contact
      (if (channel s pole).state = .suspect then (channel s pole).suspect else 0) (sampleStored pole x s) := by
  rcases h with h | h <;> simp [sampleJudged, judgeSample, channel_sampleStored, activeProfile_sampleStored, h]

theorem sampleJudged_raising (h : (channel s pole).state = .raising) : sampleJudged pole x s =
    raisingOnSample pole (activeProfile s) (min x.angle.toNat 900) x.contact (sampleStored pole x s) := by
  simp only [sampleJudged, judgeSample, channel_sampleStored, activeProfile_sampleStored, h]

theorem sampleJudged_dropped (h : (channel s pole).state = .dropped) : sampleJudged pole x s =
    droppedOnSample pole (activeProfile s) (min x.angle.toNat 900) x.contact x.hook (sampleStored pole x s) := by
  simp only [sampleJudged, judgeSample, channel_sampleStored, activeProfile_sampleStored, h]

/-! ### What the end of a sample leaves of each transition -/

theorem commanded_sampleStored (cmd : RetrieverCmd) :
    commanded cmd pole (sampleStored pole x s) = commanded cmd pole s := by
  simp only [commanded, slot_sampleStored, (acted_sampleStored pole x s).ms, taken_ms]

theorem sampleDone_dropped (h : sampleJudged pole x s = enterDropped pole (sampleStored pole x s)) :
    DropTaken pole s (sampleDone pole x s) ∧ SampleHands pole x s (sampleDone pole x s) [dropRaise pole s] := by
  have hmge := (acted_sampleStored pole x s).mge
  have hraise : dropRaise pole (sampleStored pole x s) = dropRaise pole s := by
    simp only [dropRaise, channel_sampleStored]
  have hdrop := (enterDropped_spec pole (sampleStored pole x s)).1
  refine ⟨?_, sampleHands_sampleDone (by rw [h, ← hraise]; exact acted_enterDropped pole _)⟩
  simp only [DropTaken, channel_sampleStored, slot_sampleStored, commanded_sampleStored, hmge, taken_mge] at hdrop
  simp only [DropTaken, channel_sampleDone, slot_sampleDone, h]
  exact hdrop

theorem sampleDone_set {c : Channel} {requests : List Instr}
    (h : sampleJudged pole x s = hand requests (setChannel pole c (sampleStored pole x s)))
    (hacted : c.lastDropActed = (channel s pole).lastDropActed) :
    channel (sampleDone pole x s) pole = { c with prevAngle := some (min x.angle.toNat 900) } ∧
      SlotKept pole s (sampleDone pole x s) ∧ SampleHands pole x s (sampleDone pole x s) requests := by
  have hc : channel (sampleDone pole x s) pole = { c with prevAngle := some (min x.angle.toNat 900) } := by
    simp [channel_sampleDone, h]
  refine ⟨hc, ⟨?_, by rw [hc]; exact hacted⟩, sampleHands_sampleDone ?_⟩
  · simp [slot_sampleDone, h, slot_sampleStored]
  · rw [h]
    exact (acted_setChannel pole c _).trans (acted_hand _ _ _)

theorem hand_nil (s : State) : hand [] s = s := by simp [hand]

theorem sampleDone_setSilently {c : Channel} (h : sampleJudged pole x s = setChannel pole c (sampleStored pole x s))
    (hacted : c.lastDropActed = (channel s pole).lastDropActed) :
    channel (sampleDone pole x s) pole = { c with prevAngle := some (min x.angle.toNat 900) } ∧
      SlotKept pole s (sampleDone pole x s) ∧ SampleHands pole x s (sampleDone pole x s) [] :=
  sampleDone_set (by rw [h, hand_nil]) hacted

theorem sampleDone_kept (h : sampleJudged pole x s = sampleStored pole x s) :
    (channel (sampleDone pole x s) pole).state = (channel s pole).state ∧
      (channel (sampleDone pole x s) pole).tRetr = (channel s pole).tRetr ∧ SlotKept pole s (sampleDone pole x s) ∧
      SampleHands pole x s (sampleDone pole x s) [] := by
  refine ⟨?_, ?_, ⟨?_, ?_⟩, sampleHands_sampleDone (by rw [h]; exact .refl _ _)⟩
  all_goals simp only [channel_sampleDone, slot_sampleDone, h, channel_sampleStored, slot_sampleStored]

theorem sampleDone_wired (h : sampleJudged pole x s = enterOnWire pole (sampleStored pole x s)) :
    (channel (sampleDone pole x s) pole).state = .onWire ∧ (channel (sampleDone pole x s) pole).good = 0 ∧
      (channel (sampleDone pole x s) pole).suspect = 0 ∧ (channel (sampleDone pole x s) pole).tRaise = none ∧
      SlotKept pole s (sampleDone pole x s) ∧
      SampleHands pole x s (sampleDone pole x s) [.alarmClear (.poleDrop pole)] := by
  obtain ⟨hc, hslot, hhands⟩ := sampleDone_set h (by rw [channel_sampleStored])
  rw [hc]
  exact ⟨rfl, rfl, rfl, rfl, hslot, hhands⟩

theorem sampleDone_hooked {requests : List Instr} (h : sampleJudged pole x s = hand requests (requestCommand pole .hold
      (setChannel pole { channel (sampleStored pole x s) pole with state := .stowed, tRetr := none }
        (sampleStored pole x s)))) :
    (channel (sampleDone pole x s) pole).state = .stowed ∧ (channel (sampleDone pole x s) pole).tRetr = none ∧
      slot (sampleDone pole x s) pole = commanded .hold pole s ∧
      SampleHands pole x s (sampleDone pole x s) requests := by
  refine ⟨?_, ?_, ?_, sampleHands_sampleDone ?_⟩
  · simp [channel_sampleDone, h]
  · simp [channel_sampleDone, h]
  · rw [slot_sampleDone, h, slot_hand, slot_requestCommand, ← commanded_sampleStored (x := x) (s := s)]
    simp [commanded]
  · rw [h]
    exact ((acted_setChannel pole _ _).trans (acted_requestCommand pole .hold _)).trans (acted_hand _ _ _)

end Judged

/-! ### The statements -/

/-- Settles O9: the three cases of R25 in their order. -/
theorem sampleResolvesChannel : Obligations.SampleResolvesChannel := by
  intro pole x s hstate e a
  have hjudged := sampleJudged_unresolved (x := x) hstate
  refine ⟨_, exec_sampleAccepted pole x s, fun hs => ?_, fun hs hb hc => ?_, fun hs hb => ?_⟩
  · obtain ⟨hchan, hslot, hhands⟩ :=
      sampleDone_set (hjudged.trans (resolveChannel_stows hs)) (by rw [channel_sampleStored])
    exact ⟨by rw [hchan], hslot, hhands⟩
  · obtain ⟨hwire, -, hsuspect, -, hslot, hhands⟩ := sampleDone_wired (hjudged.trans (resolveChannel_wires hs hb hc))
    exact ⟨hwire, hsuspect, hslot, hhands⟩
  · exact sampleDone_dropped (hjudged.trans (resolveChannel_drops hs hb))

/-- Settles O10: R26 for a STOWED pole, R31 for one that is pulled down. -/
theorem sampleOfLoweredPole : Obligations.SampleOfLoweredPole := by
  intro pole x s e a
  refine ⟨fun hstate => ?_, fun hstate => ?_⟩
  · have hjudged := sampleJudged_stowed (x := x) hstate
    refine ⟨_, exec_sampleAccepted pole x s, fun hk => ?_, fun hh ha => ?_⟩
    · obtain ⟨hkeeps, -, hslot, hhands⟩ := sampleDone_kept (hjudged.trans (stowedOnSample_kept hk))
      exact ⟨hkeeps.trans hstate, hslot, hhands⟩
    · exact sampleDone_dropped (hjudged.trans (stowedOnSample_drops hh ha))
  · have hjudged := sampleJudged_retrieving (x := x) hstate
    refine ⟨_, exec_sampleAccepted pole x s, fun hs => ?_, fun hs => ?_⟩
    · exact sampleDone_hooked (hjudged.trans (retrievalOnSample_hooks hs))
    · exact sampleDone_kept (hjudged.trans (retrievalOnSample_kept hs))

/-- Settles O11: the judgements of R27 and R28, the run counted from 0 or from the count so far. -/
theorem sampleOnWire : Obligations.SampleOnWire := by
  intro pole x s hstate e a run fast bad
  have hjudged := sampleJudged_running (x := x) hstate
  have hrun : run = (if (channel s pole).state = .suspect then (channel s pole).suspect else 0) + 1 := by
    simp only [run]; split <;> rfl
  have hprev : (channel (sampleStored pole x s) pole).prevAngle = (channel s pole).prevAngle := by
    rw [channel_sampleStored]
  have hview : (sampleStored pole x s).pwu.view = s.pwu.view := (acted_sampleStored pole x s).view
  simp only [fast, bad]
  rw [hrun, ← hprev, ← hview]
  refine ⟨_, exec_sampleAccepted pole x s, fun h => ?_, fun hf hb hk => ?_, fun hf hb => ?_⟩
  · exact sampleDone_dropped (hjudged.trans (runningOnSample_drops h))
  · obtain ⟨hchan, hslot, hhands⟩ := sampleDone_setSilently (hjudged.trans (runningOnSample_suspects hf hb hk))
      (by rw [channel_sampleStored])
    exact ⟨by rw [hchan], by rw [hchan], hslot, hhands⟩
  · obtain ⟨hchan, hslot, hhands⟩ := sampleDone_setSilently (hjudged.trans (runningOnSample_clean hf hb))
      (by rw [channel_sampleStored])
    exact ⟨by rw [hchan], by rw [hchan], hslot, hhands⟩

/-- Settles O12: R29 for a RAISING pole, R30 for a DROPPED one. -/
theorem sampleOffWire : Obligations.SampleOffWire := by
  intro pole x s e a c fast good
  have hprev : (channel (sampleStored pole x s) pole).prevAngle = c.prevAngle := by rw [channel_sampleStored]
  have hgood : (channel (sampleStored pole x s) pole).good = c.good := by rw [channel_sampleStored]
  simp only [fast, good]
  rw [← hprev, ← hgood]
  refine ⟨fun hstate => ?_, fun hstate _ => ?_⟩
  · have hjudged := sampleJudged_raising (x := x) hstate
    refine ⟨_, exec_sampleAccepted pole x s, fun h => ?_, fun hg hk => ?_, fun h hk => ?_⟩
    · exact sampleDone_dropped (hjudged.trans (raisingOnSample_drops h))
    · exact sampleDone_wired (hjudged.trans (raisingOnSample_wires hg hk))
    · obtain ⟨hchan, hslot, hhands⟩ := sampleDone_setSilently (hjudged.trans (raisingOnSample_counts h hk))
        (by rw [channel_sampleStored])
      rw [hchan]
      exact ⟨by rw [channel_sampleStored]; exact hstate, fun hg => if_pos ((goodSample_iff _ _ _ _).mpr hg),
        fun hg => if_neg fun k => hg ((goodSample_iff _ _ _ _).mp k),
        by rw [channel_sampleStored], hslot, hhands⟩
  · have hjudged := sampleJudged_dropped (x := x) hstate
    have hacted : (channel (sampleStored pole x s) pole).lastDropActed = (channel s pole).lastDropActed := by
      rw [channel_sampleStored]
    have hstored : (channel (sampleStored pole x s) pole).state = .dropped := by rw [channel_sampleStored]; exact hstate
    have hwires := fun hg hk => sampleDone_wired (hjudged.trans (droppedOnSample_wires hg hk))
    have hcounts := fun hg hk => sampleDone_setSilently (hjudged.trans (droppedOnSample_counts hg hk)) hacted
    have hstows := fun hg hs => sampleDone_set (hjudged.trans (droppedOnSample_stows hg hs)) hacted
    have hrestarts := fun hg hs => sampleDone_setSilently (hjudged.trans (droppedOnSample_restarts hg hs)) hacted
    refine ⟨_, exec_sampleAccepted pole x s, ?_, fun hg hk => ?_, fun hg hk => ?_, fun hg hs => ?_, fun hg hs => ?_⟩
    · by_cases hg : Good e (channel (sampleStored pole x s) pole).prevAngle a x.contact
      · rcases Nat.lt_or_ge ((channel (sampleStored pole x s) pole).good + 1) e.confirm.toNat with hk | hk
        · exact (hcounts hg hk).2.1
        · obtain ⟨-, -, -, -, hslot, -⟩ := hwires hg hk
          exact hslot
      · by_cases hs : Stows e a x.hook
        · exact (hstows hg hs).2.1
        · exact (hrestarts hg hs).2.1
    · obtain ⟨hwire, hzero, hsuspect, -, -, hhands⟩ := hwires hg hk
      exact ⟨hwire, hzero, hsuspect, hhands⟩
    · obtain ⟨hchan, -, hhands⟩ := hcounts hg hk
      exact ⟨by rw [hchan]; exact hstored, by rw [hchan], hhands⟩
    · obtain ⟨hchan, -, hhands⟩ := hstows hg hs
      exact ⟨by rw [hchan], by rw [hchan], hhands⟩
    · obtain ⟨hchan, -, hhands⟩ := hrestarts hg hs
      exact ⟨by rw [hchan]; exact hstored, by rw [hchan], hhands⟩

end Sys2Proof.Machine
end

section
/-! The pole timers (R36 to R38) and the operations that a request or the settings lock makes on several poles (R33 to R35). -/

namespace Sys2Proof.Machine

/-! ### The expiries of the pole timers -/

@[simp] theorem channel_placeNotice (payload : List Byte) (s : State) (q : Pole) :
    channel (placeNotice payload s) q = channel s q := by rw [placeNotice_frame]; rfl

@[simp] theorem slot_placeNotice (payload : List Byte) (s : State) (q : Pole) :
    slot (placeNotice payload s) q = slot s q := by rw [placeNotice_frame]; rfl

/-- R36: a channel that enters LOST. -/
theorem acted_loseSensor (pole : Pole) (s : State) : PolesActed [pole] s (loseSensor pole s)
    [.alarmRaise (.sensorLost pole) false, .poleReport pole .lost (decide ((channel s pole).state ≠ .lost))] :=
  (acted_setChannel pole _ s).trans (acted_hand _ _ _)

theorem channel_loseSensor (pole : Pole) (s : State) : channel (loseSensor pole s) pole =
    { channel s pole with state := .lost, prevAngle := none, suspect := 0, good := 0, tSmp := none, tRaise := none,
                          tRetr := none } := by simp [loseSensor]

/-- R38: a retrieval that is commanded again. -/
theorem acted_repeatRetrieval (pole : Pole) (s : State) :
    PolesActed [pole] s (repeatRetrieval pole s) [.alarmRaise (.retrieveFail pole) false] :=
  ((acted_hand _ _ s).trans (acted_requestCommand pole .pullDown _)).trans (acted_setChannel pole _ _)

theorem channel_repeatRetrieval (pole : Pole) (s : State) : channel (repeatRetrieval pole s) pole =
    { channel s pole with tRetr := some (tRetr s.mge.params) } := by simp [repeatRetrieval]

theorem slot_repeatRetrieval (pole : Pole) (s : State) :
    slot (repeatRetrieval pole s) pole = commanded .pullDown pole s := by
  simp [repeatRetrieval, slot_requestCommand, commanded]

/-- Settles O13: one expiry of R36 to R38 after another, and R40. -/
theorem poleTimersAndView : Obligations.PoleTimersAndView := by
  intro pole n s c
  refine ⟨fun h => ?sensor, fun h => ?raise, fun h => ?retrieval, fun v => rfl⟩
  case sensor =>
    have hacted := acted_loseSensor pole s
    refine ⟨loseSensor pole s, ?_, channel_loseSensor pole s, ?_, hacted.onlyPole, hacted.hands, ?_⟩
    · simp only [exec, execTSmpExpiry, c] at h ⊢
      rw [h]
    · simp [loseSensor]
    · cases pole <;> rfl
  case raise =>
    have hacted := acted_startLowering pole (placeNotice [3, poleCode pole] s)
    obtain ⟨hslot, hchan, hhands, -⟩ := startLowering_spec pole (placeNotice [3, poleCode pole] s)
    simp only [channel_placeNotice, placeNotice_mge, placeNotice_handed] at hchan hhands
    obtain ⟨hother, hpwu, hpli⟩ := hacted.onlyPole
    simp only [channel_placeNotice, slot_placeNotice, placeNotice_pwu, placeNotice_pli] at hother hpwu hpli
    have hupi := congrArg State.upi hacted.frame
    refine ⟨startLowering pole (placeNotice [3, poleCode pole] s), ?_, hchan, hslot.trans ?_, ⟨hother, hpwu, hpli⟩,
      hhands, hupi, hacted.frame.trans ?_⟩
    · simp only [exec, execTRaiseExpiry, c] at h ⊢
      rw [h]
    · simp only [commanded, slot_placeNotice, placeNotice_ms]
    · rw [hupi, placeNotice_frame]
  case retrieval =>
    have hacted := acted_repeatRetrieval pole s
    refine ⟨repeatRetrieval pole s, ?_, channel_repeatRetrieval pole s, slot_repeatRetrieval pole s, hacted.onlyPole,
      hacted.hands, hacted.frame⟩
    simp only [exec, execTRetrExpiry, c] at h ⊢
    rw [h]

/-! ### An operation made on one pole after another -/

/-- R50: a slot that a command has entered at this time. -/
def commandedSlot (cmd : RetrieverCmd) (now : Millis) (old : Slot) : Slot :=
  { state := .waiting, cmd := some cmd, tx := 0, entry := now, tCmd := some 20,
    linePending := old.linePending || decide (old.state = .sending) }

theorem commanded_eq (cmd : RetrieverCmd) (pole : Pole) (s : State) :
    commanded cmd pole s = commandedSlot cmd s.ms (slot s pole) := rfl

/-- An operation on a pole by what it makes of its channel and of its slot, and by the events that it hands over. -/
structure PoleOp where
  toChannel : ParamTable → Channel → Channel
  toSlot    : Millis → Channel → Slot → Slot
  events    : Pole → Channel → List Instr

/-- A function of the model performs an operation. -/
def PoleOp.PerformedBy (op : PoleOp) (f : Pole → State → State) : Prop :=
  ∀ q s, PolesActed [q] s (f q s) (op.events q (channel s q)) ∧
    channel (f q s) q = op.toChannel s.mge.params (channel s q) ∧ slot (f q s) q = op.toSlot s.ms (channel s q) (slot s q)

/-- On different poles the operation does to each what it would do to it alone, and hands over in their order. -/
theorem PoleOp.PerformedBy.foldl {op : PoleOp} {f : Pole → State → State} (hf : op.PerformedBy f) (l : List Pole)
    (hl : l.Nodup) (s : State) :
    PolesActed l s (l.foldl (fun t q => f q t) s) (l.flatMap fun q => op.events q (channel s q)) ∧
    ∀ q ∈ l, channel (l.foldl (fun t q => f q t) s) q = op.toChannel s.mge.params (channel s q) ∧
      slot (l.foldl (fun t q => f q t) s) q = op.toSlot s.ms (channel s q) (slot s q) := by
  induction l generalizing s with
  | nil => exact ⟨.refl [] s, fun _ h => nomatch h⟩
  | cons first rest ih =>
    obtain ⟨hfirst, hrest⟩ := List.nodup_cons.mp hl
    obtain ⟨hacted, hchan, hslot⟩ := hf first s
    obtain ⟨iacted, iafter⟩ := ih hrest (f first s)
    have hsame : ∀ q ∈ rest, channel (f first s) q = channel s q ∧ slot (f first s) q = slot s q := fun q hq =>
      hacted.kept q fun hm => hfirst (List.mem_singleton.mp hm ▸ hq)
    have hevents : (rest.flatMap fun q => op.events q (channel (f first s) q)) =
        rest.flatMap fun q => op.events q (channel s q) :=
      List.flatMap_congr fun q hq => by rw [(hsame q hq).1]
    refine ⟨?_, fun q hq => ?_⟩
    · rw [List.foldl_cons, List.flatMap_cons, ← hevents]
      exact (hacted.mono (by simp)).trans (iacted.mono (by simp))
    · rw [List.foldl_cons]
      rcases List.mem_cons.mp hq with rfl | hm
      · exact ⟨(iacted.kept q hfirst).1.trans hchan, (iacted.kept q hfirst).2.trans hslot⟩
      · obtain ⟨ichan, islot⟩ := iafter q hm
        rw [ichan, islot, hacted.mge, hacted.ms, (hsame q hm).1, (hsame q hm).2]
        exact ⟨rfl, rfl⟩

/-! ### Raising, lowering and the settings lock (R33 to R35) -/

/-- R34: release into RAISING. -/
def raiseOp : PoleOp where
  toChannel t c := { c with state := .raising, good := 0, tRaise := some (tRaise t) }
  toSlot now _ x := commandedSlot .release now x
  events q _ := [.poleReport q .raising true]

/-- R35: pull down into LOWERING. -/
def lowerOp : PoleOp where
  toChannel t c := { c with state := .lowering, suspect := 0, good := 0, tRaise := none, tRetr := some (tRetr t) }
  toSlot now _ x := commandedSlot .pullDown now x
  events q _ := [.poleReport q .lowering true]

/-- R33: the settings lock acts on a channel that is DROPPED under REPORT_ONLY. -/
abbrev LockActs (c : Channel) : Prop := c.state = .dropped ∧ c.mask = .reportOnly

/-- R33: AUTONOMOUS, with a retrieval where the lock acts. -/
def lockOp : PoleOp where
  toChannel t c :=
    if LockActs c then
      { c with mask := .autonomous, state := .retrieving, lastDropActed := true, tRetr := some (tRetr t) }
    else { c with mask := .autonomous }
  toSlot now c x := if LockActs c then commandedSlot .pullDown now x else x
  events q c := if LockActs c then [.alarmRaise (.poleDrop q) true, .poleReport q .retrieving true] else []

theorem raiseOp_performed : raiseOp.PerformedBy startRaise := fun q s =>
  ⟨acted_startRaise q s, (startRaise_spec q s).2.1, (startRaise_spec q s).1⟩

theorem lowerOp_performed : lowerOp.PerformedBy lowerPole := fun q s => by
  obtain ⟨hslot, hchan, -⟩ := startLowering_spec q (setChannel q { channel s q with suspect := 0 } s)
  simp only [channel_setChannel_same, setChannel_mge, commanded_eq, slot_setChannel, setChannel_ms] at hchan hslot
  exact ⟨(acted_setChannel q _ s).trans (acted_startLowering q _), hchan, hslot⟩

theorem lockOp_performed : lockOp.PerformedBy lockChannel := fun q s => by
  unfold lockChannel lockOp
  by_cases h : LockActs (channel s q)
  · simp only [if_pos h]
    refine ⟨?_, ?_, ?_⟩
    · exact ((acted_setChannel q _ s).trans (acted_hand _ [.alarmRaise (.poleDrop q) true] _)).trans
        ((acted_startRetrieval q _).trans (acted_hand _ [.poleReport q .retrieving true] _))
    · simp [channel_startRetrieval]
    · simp [slot_startRetrieval, commanded_eq]
  · simp only [if_neg h]
    exact ⟨acted_setChannel q _ s, by simp, by simp⟩

end Sys2Proof.Machine
end

section
/-! The requests that name poles (R20, R34, R35), and the tables abandoned and the settings lock (R173, R177). -/

namespace Sys2Proof.Machine

/-! ### Selectors and masks (R165, R189) -/

theorem polesOf_eq_none {c : Byte} (h : c = 0 ∨ 3 < c.toNat) : polesOf c = none := by
  revert c; decide

theorem actMaskOf_eq_none {m : Byte} (h : 1 < m.toNat) : actMaskOf m = none := by
  revert m; decide

theorem polesBody_malformed {args : List Byte} {act : List Pole → State → State × Status} {s : State}
    (h : args.length ≠ 1 ∨ ∃ c ∈ args.head?, c = 0 ∨ 3 < c.toNat) :
    polesBody args act s = (s, plain .badField) := by
  match args with
  | [] => rfl
  | [c] =>
    have hc : polesOf c = none := polesOf_eq_none (by simpa using h)
    simp only [polesBody, hc]
  | _ :: _ :: _ => rfl

/-- A request other than SET_ACT_MASK has no second field, and names both poles by 3. -/
theorem selector_malformed {args : List Byte} {code : ReqCode} (hcode : code ≠ .setActMask)
    (h : args.length ≠ 1 ∨ (∃ c ∈ args.head?, c = 0 ∨ 3 < c.toNat ∨ (c = 3 ∧ code = .setActMask)) ∨
      ∃ m ∈ args[1]?, 1 < m.toNat) : args.length ≠ 1 ∨ ∃ c ∈ args.head?, c = 0 ∨ 3 < c.toNat := by
  match args with
  | [] => exact .inl (by simp)
  | [c] => exact .inr (by simpa [hcode] using h)
  | _ :: _ :: _ => exact .inl (by simp)

theorem maskBody_malformed {args : List Byte} {s : State}
    (h : args.length ≠ 2 ∨ (∃ c ∈ args.head?, c = 0 ∨ 3 < c.toNat ∨ c = 3) ∨ ∃ m ∈ args[1]?, 1 < m.toNat) :
    maskBody args s = (s, plain .badField) := by
  match args with
  | [] => rfl
  | [_] => rfl
  | [c, m] =>
    simp only [List.length_cons, List.length_nil, ne_eq, not_true_eq_false, List.head?_cons, Option.mem_def,
      Option.some.injEq, exists_eq_left', List.getElem?_cons_succ, List.getElem?_cons_zero, false_or] at h
    rcases h with (h | h | rfl) | h
    · simp only [maskBody, polesOf_eq_none (.inl h)]
    · simp only [maskBody, polesOf_eq_none (.inr h)]
    · rfl
    · simp only [maskBody]
      split
      · rename_i hm
        rw [actMaskOf_eq_none h] at hm
        exact nomatch hm
      · rfl
  | _ :: _ :: _ :: _ => rfl

/-! ### The judgements (R20, R34, R35) -/

section Judgements

variable {poles : List Pole} {s : State}

theorem raisePoles_busy (h : ¬ (∀ pole ∈ poles, (channel s pole).state = .stowed) ∨ s.smc.mode = .dewired) :
    raisePoles poles s = (s, .busy) := by
  have hj : judgeRaise poles s = .busy := by
    unfold judgeRaise
    split
    · rfl
    · rename_i hall
      refine if_pos (h.resolve_left fun k => k fun q hq => ?_)
      by_contra hs
      exact hall (List.any_eq_true.mpr ⟨q, hq, decide_eq_true hs⟩)
  simp only [raisePoles, hj]

section Stowed

variable (hs : ∀ pole ∈ poles, (channel s pole).state = .stowed) (hm : s.smc.mode ≠ .dewired)

include hs hm

theorem judgeRaise_stowed : judgeRaise poles s =
    if s.pwu.view.kind = .insulator ∨ s.pwu.view.kind = .wireless then .wrongSection else .ok := by
  have hall : (poles.any fun q => decide ((channel s q).state ≠ .stowed)) = false := by simpa using hs
  simp only [judgeRaise, hall, Bool.false_eq_true, if_false, hm]

theorem raisePoles_wrongSection (hg : s.pwu.view.kind = .insulator ∨ s.pwu.view.kind = .wireless) :
    raisePoles poles s = (s, .wrongSection) := by
  simp only [raisePoles, judgeRaise_stowed hs hm, if_pos hg]

theorem raisePoles_ok (hg : ¬ (s.pwu.view.kind = .insulator ∨ s.pwu.view.kind = .wireless)) :
    raisePoles poles s = (poles.foldl (fun t q => startRaise q t) s, .ok) := by
  simp only [raisePoles, judgeRaise_stowed hs hm, if_neg hg]

end Stowed

theorem canLower_iff (state : PoleState) :
    canLower state = true ↔ state = .onWire ∨ state = .suspect ∨ state = .raising := by
  cases state <;> simp [canLower]

/-- R35: the poles that POLE_LOWER lowers, of those that it names. -/
def loweredPoles (poles : List Pole) (s : State) : List Pole := poles.filter fun q => canLower (channel s q).state

theorem mem_loweredPoles {q : Pole} :
    q ∈ loweredPoles poles s ↔ q ∈ poles ∧ canLower (channel s q).state = true := List.mem_filter

/-- R35: a named pole that is neither to be lowered nor STOWED. -/
def LoweringBlocked (poles : List Pole) (s : State) : Prop :=
  ∃ pole ∈ poles, ¬ canLower (channel s pole).state = true ∧ (channel s pole).state ≠ .stowed

theorem lowerPoles_busy (h : LoweringBlocked poles s) : lowerPoles poles s = (s, .busy) :=
  if_pos (by simpa [LoweringBlocked] using h)

theorem lowerPoles_ok (h : ¬ LoweringBlocked poles s) :
    lowerPoles poles s = ((loweredPoles poles s).foldl (fun t q => lowerPole q t) s, .ok) :=
  if_neg (by simpa [LoweringBlocked] using h)

variable {pole : Pole} {mask : ActMask}

theorem setMask_locked (h : s.mge.lock = true) : setMask pole mask s = (s, .locked) := if_pos h

theorem setMask_busy (h : s.mge.lock = false)
    (hb : (channel s pole).state = .dropped ∨ (channel s pole).state = .retrieving) :
    setMask pole mask s = (s, .busy) := by simp only [setMask, h, Bool.false_eq_true, if_false, hb, if_true]

theorem setMask_ok (h : s.mge.lock = false)
    (hb : ¬ ((channel s pole).state = .dropped ∨ (channel s pole).state = .retrieving)) :
    setMask pole mask s = (setChannel pole { channel s pole with mask := mask } s, .ok) := by
  simp only [setMask, h, Bool.false_eq_true, if_false, hb]

end Judgements

/-! ### A request that is taken -/

/-- What the requests on poles read is as MGE's taking of the request found it. -/
theorem taken_poles {code : ReqCode} {q : Request} {s s1 : State} (h : Taken code q s s1) :
    (∀ pole, channel s1 pole = channel s pole) ∧ (∀ pole, slot s1 pole = slot s pole) ∧ s1.ms = s.ms ∧
      s1.pwu = s.pwu ∧ s1.pli = s.pli ∧ s1.smc = s.smc ∧ s1.mge.params = s.mge.params ∧ s1.mge.lock = s.mge.lock ∧
      s1.mge.openTable = s.mge.openTable := by
  obtain ⟨queue, rfl⟩ := taken_frame h
  exact ⟨fun pole => by cases pole <;> rfl, fun pole => by cases pole <;> rfl, rfl, rfl, rfl, rfl, rfl, rfl, rfl⟩

/-- A request on poles is answered with what its judgement says. -/
theorem polesBody_named {sel : Byte} {poles : List Pole} {act : List Pole → State → State × Status} {s after : State}
    {status : Status} (hsel : polesOf sel = some poles) (h : act poles s = (after, status)) :
    polesBody [sel] act s = (after, plain status) := by
  simp only [polesBody, hsel, h]

theorem maskBody_named {sel m : Byte} {pole : Pole} {mask : ActMask} {s after : State} {status : Status}
    (hsel : polesOf sel = some [pole]) (hm : actMaskOf m = some mask) (h : setMask pole mask s = (after, status)) :
    maskBody [sel, m] s = (after, plain status) := by
  simp only [maskBody, hsel, hm, h]

theorem selector_cases {sel : Byte} {poles : List Pole}
    (h : (sel, poles) ∈ [((1 : Byte), [Pole.p]), (2, [.n]), (3, [.p, .n])]) : polesOf sel = some poles ∧ poles.Nodup := by
  simp only [List.mem_cons, Prod.mk.injEq, List.not_mem_nil, or_false] at h
  rcases h with ⟨rfl, rfl⟩ | ⟨rfl, rfl⟩ | ⟨rfl, rfl⟩ <;> decide

/-- Settles O47: the judgements of R34, R35 and R20 in their order; the poles moved are taken one after another. -/
theorem poleRequestsAnswered : Obligations.PoleRequestsAnswered := by
  intro q sel poles s s1 hover hsel stowed gap up blocked moved
  obtain ⟨hpoles, hnodup⟩ := selector_cases hsel
  have hmoved : ∀ {code : ReqCode} {l : List Pole} {t : State} {state : PoleState}, Taken code q s s1 →
      PolesActed l s1 t (l.flatMap fun pole => [.poleReport pole state true]) → moved l state t := by
    intro code l t state ht h
    obtain ⟨hchan, hslot, -, hpwu, hpli, -⟩ := taken_poles ht
    refine ⟨fun pole hp => ?_, hpwu ▸ h.pwu, hpli ▸ h.pli, ?_⟩
    · rw [← hchan, ← hslot]
      exact h.kept pole hp
    · rw [List.map_eq_flatMap, ← h.hands]
      exact h.frame
  refine ⟨fun ht hargs => ?raising, fun ht hargs => ?lowering, fun ht pole m mask hpole hmask hargs => ?masking,
    fun code args hcode ht hbad => ?malformed⟩
  case raising =>
    obtain ⟨hchan, hslot, hms, hpwu, -, hsmc, hparams, -⟩ := taken_poles ht
    have hbody : ∀ {status after}, raisePoles poles s1 = (after, status) → Answered .poleRaise q s status [] after :=
      fun h => answered_of_body rfl hover ht (hargs ▸ polesBody_named hpoles h)
    simp only [stowed, gap, ← hchan, ← hpwu, ← hsmc, ← hparams]
    refine ⟨fun h => hbody (raisePoles_busy h), fun hs hm hg => hbody (raisePoles_wrongSection hs hm hg),
      fun hs hm hg => ⟨_, hbody (raisePoles_ok hs hm hg), ?_⟩⟩
    obtain ⟨hacted, hafter⟩ := raiseOp_performed.foldl poles hnodup s1
    refine ⟨hmoved ht hacted, fun pole hp => ⟨?_, (hafter pole hp).1⟩⟩
    rw [(hafter pole hp).2, commanded_eq, ← hslot, ← hms]
    rfl
  case lowering =>
    obtain ⟨hchan, hslot, hms, -, -, -, hparams, -⟩ := taken_poles ht
    have hbody : ∀ {status after}, lowerPoles poles s1 = (after, status) → Answered .poleLower q s status [] after :=
      fun h => answered_of_body rfl hover ht (hargs ▸ polesBody_named hpoles h)
    simp only [blocked, up, ← hchan, ← hparams, ← canLower_iff]
    refine ⟨fun h => hbody (lowerPoles_busy h), fun h => ⟨loweredPoles poles s1, _, List.filter_sublist,
      fun pole => mem_loweredPoles, hbody (lowerPoles_ok h), ?_⟩⟩
    obtain ⟨hacted, hafter⟩ := lowerOp_performed.foldl (loweredPoles poles s1) (hnodup.filter _) s1
    refine ⟨hmoved ht hacted, fun pole hp => ⟨?_, (hafter pole hp).1⟩⟩
    rw [(hafter pole hp).2, commanded_eq, ← hslot, ← hms]
    rfl
  case masking =>
    intro busy
    subst hpole
    obtain ⟨hchan, -, -, -, -, -, -, hlock, -⟩ := taken_poles ht
    have hbody : ∀ {status after}, setMask pole mask s1 = (after, status) → Answered .setActMask q s status [] after :=
      fun h => answered_of_body rfl hover ht (hargs ▸ maskBody_named hpoles hmask h)
    simp only [busy, ← hchan, ← hlock]
    exact ⟨fun h => hbody (setMask_locked h), fun h hb => hbody (setMask_busy h hb), fun h hb => hbody (setMask_ok h hb)⟩
  case malformed =>
    simp only [List.mem_cons, Prod.mk.injEq, List.not_mem_nil, or_false] at hcode
    rcases hcode with ⟨rfl, rfl⟩ | ⟨rfl, rfl⟩ | ⟨rfl, rfl⟩
    · exact answered_of_body rfl hover ht (polesBody_malformed (selector_malformed (by decide) hbad))
    · exact answered_of_body rfl hover ht (polesBody_malformed (selector_malformed (by decide) hbad))
    · refine answered_of_body rfl hover ht (maskBody_malformed ?_)
      simpa using hbad

/-! ### Tables abandoned (R173) -/

theorem abandonTable_open (cause : AbandonCause) {s : State} {o : OpenTable} (h : s.mge.openTable = some o) :
    abandonTable cause s = placeNotice [7, tableCode o.table, o.owner.setWidth 8, abandonCauseCode cause]
      (discardShadow o.table { s with mge.openTable := none }) := by
  simp only [abandonTable, h, nodeByte, closeTable]

theorem abandonForLock_none {s : State} (h : s.mge.openTable = none) : abandonForLock s = s := by
  simp only [abandonForLock, h]

theorem abandonForLock_open {s : State} {o : OpenTable} (h : s.mge.openTable = some o) : abandonForLock s =
    if o.table = .sections ∨ o.table = .aux then s
    else placeNotice [7, tableCode o.table, o.owner.setWidth 8, 3]
      (discardShadow o.table { s with mge.openTable := none }) := by
  simp only [abandonForLock, h, lockCovers_iff, abandonTable_open .lock h, ← not_or, ite_not]
  rfl

theorem abandonTable_keeps (cause : AbandonCause) (s : State) :
    (∀ q, channel (abandonTable cause s) q = channel s q) ∧ (∀ q, slot (abandonTable cause s) q = slot s q) ∧
      (abandonTable cause s).ms = s.ms ∧ (abandonTable cause s).mge.params = s.mge.params ∧
      (abandonTable cause s).mge.lock = s.mge.lock ∧ (abandonTable cause s).handed = s.handed := by
  cases h : s.mge.openTable with
  | none => simp [abandonTable, h]
  | some o =>
    rw [abandonTable_open cause h, placeNotice_frame]
    cases o.table <;> exact ⟨fun q => by cases q <;> rfl, fun q => by cases q <;> rfl, rfl, rfl, rfl, rfl⟩

/-- R177: a table abandoned for the lock touches no pole, no parameter and nothing handed over. -/
theorem abandonForLock_keeps (s : State) :
    (∀ q, channel (abandonForLock s) q = channel s q) ∧ (∀ q, slot (abandonForLock s) q = slot s q) ∧
      (abandonForLock s).ms = s.ms ∧ (abandonForLock s).mge.params = s.mge.params ∧
      (abandonForLock s).mge.lock = s.mge.lock ∧ (abandonForLock s).handed = s.handed := by
  unfold abandonForLock
  split
  · simp
  · split
    · exact abandonTable_keeps .lock s
    · simp

theorem abandonBody_notOpen {source : Node} {t : TableId} {s : State}
    (h : s.mge.openTable.map OpenTable.table ≠ some t) : abandonBody source t s = (s, plain .notOpen) := by
  simp only [abandonBody, ownerCheck_notOpen h]

theorem abandonBody_notOwner {source : Node} {t : TableId} {s : State} {o : OpenTable}
    (h : s.mge.openTable = some o) (ht : o.table = t) (ho : o.owner ≠ source) :
    abandonBody source t s = (s, plain .notOwner) := by
  simp only [abandonBody, ownerCheck_notOwner h ht ho]

theorem abandonBody_ok {source : Node} {t : TableId} {s : State} {o : OpenTable}
    (h : s.mge.openTable = some o) (ht : o.table = t) (ho : o.owner = source) :
    abandonBody source t s = (abandonTable .request s, plain .ok) := by
  simp only [abandonBody, ownerCheck_ok h ht ho]

/-! ### The settings lock (R33, R177) -/

theorem lockBody_malformed {args : List Byte} {s : State} (h : args ≠ []) : lockBody args s = (s, plain .badField) :=
  if_neg h

theorem lockBody_set {args : List Byte} {s : State} (ha : args = []) (h : s.mge.lock = true) :
    lockBody args s = (s, plain .ok) := by
  simp only [lockBody, ha, h, if_true]

theorem lockBody_sets {args : List Byte} {s : State} (ha : args = []) (h : s.mge.lock = false) :
    lockBody args s = (setLock s, plain .ok) := by
  simp only [lockBody, ha, h, Bool.false_eq_true, if_true, if_false]

/-- The state in which the lock acts on the channels: the covered table abandoned, the lock set. -/
def lockPlaced (s : State) : State := { abandonForLock s with mge.lock := true }

theorem channel_lockPlaced (s : State) (q : Pole) : channel (lockPlaced s) q = channel s q := by
  rw [← (abandonForLock_keeps s).1 q]
  cases q <;> rfl

theorem slot_lockPlaced (s : State) (q : Pole) : slot (lockPlaced s) q = slot s q := by
  rw [← (abandonForLock_keeps s).2.1 q]
  cases q <;> rfl

/-- R33, R177: the lock on both channels, P before N. -/
theorem setLock_acted (s : State) :
    PolesActed [.p, .n] (lockPlaced s) (setLock s)
      (lockOp.events .p (channel s .p) ++ lockOp.events .n (channel s .n)) ∧
    ∀ q, channel (setLock s) q = lockOp.toChannel s.mge.params (channel s q) ∧
      slot (setLock s) q = lockOp.toSlot s.ms (channel s q) (slot s q) := by
  obtain ⟨-, -, hms, hparams, -⟩ := abandonForLock_keeps s
  obtain ⟨hacted, hafter⟩ := lockOp_performed.foldl [.p, .n] (by decide) (lockPlaced s)
  simp only [channel_lockPlaced, slot_lockPlaced, List.flatMap_cons, List.flatMap_nil, List.append_nil,
    show (lockPlaced s).ms = s.ms from hms, show (lockPlaced s).mge.params = s.mge.params from hparams] at hacted hafter
  exact ⟨hacted, fun q => hafter q (by cases q <;> simp)⟩

/-- Settles O51: R173 by each of its three causes, and R177 on both channels. -/
theorem tableAbandonedAndLock : Obligations.TableAbandonedAndLock := by
  unfold Obligations.TableAbandonedAndLock
  intro dropped
  refine ⟨fun o s ho => congrArg Host.Outcome.next (abandonTable_open .timeout ho), fun q table s s1 hover ht hargs => ?request,
    fun q s s1 hover ht => ⟨fun h => ?_, fun h hl => ?_, fun h hl => ?locking⟩⟩
  case request =>
    obtain ⟨-, -, -, -, -, -, -, -, hopen⟩ := taken_poles ht
    have hbody : ∀ {status after}, abandonBody q.source table s1 = (after, plain status) →
        Answered .tableAbandon q s status [] after := fun h =>
      answered_of_body rfl hover ht (by rw [hargs, tableBody_tableCode]; exact h)
    rw [← hopen]
    refine ⟨fun h => hbody (abandonBody_notOpen h), fun o ho htab => ⟨fun hw => hbody (abandonBody_notOwner ho htab hw),
      fun hw => hbody ((abandonBody_ok ho htab hw).trans ?_)⟩⟩
    rw [abandonTable_open .request ho]
    rfl
  · exact answered_of_body rfl hover ht (lockBody_malformed h)
  · obtain ⟨-, -, -, -, -, -, -, hlock, -⟩ := taken_poles ht
    exact answered_of_body rfl hover ht (lockBody_set h (hlock.trans hl))
  case locking =>
    obtain ⟨hchan, hslot, hms, -, -, -, hparams, hlock, hopen⟩ := taken_poles ht
    obtain ⟨hacted, hafter⟩ := setLock_acted s1
    simp only [hchan, hslot, hms, hparams] at hacted hafter
    refine ⟨abandonForLock s1, setLock s1,
      answered_of_body rfl hover ht (lockBody_sets h (hlock.trans hl)), fun ho => abandonForLock_none (hopen.trans ho),
      fun o ho => abandonForLock_open (hopen.trans ho), ?_⟩
    intro acts
    refine ⟨fun pole hp => ?_, fun pole hp => ?_, ?_, ?_⟩
    · rw [(hafter pole).1, (hafter pole).2]
      exact ⟨if_neg hp, if_neg hp⟩
    · rw [(hafter pole).1, (hafter pole).2, commanded_eq]
      exact ⟨if_pos hp, if_pos hp⟩
    · refine ⟨decide (LockActs (channel s .p)), decide (LockActs (channel s .n)), decide_eq_true_iff, decide_eq_true_iff, ?_⟩
      obtain ⟨-, -, -, -, -, hhanded⟩ := abandonForLock_keeps s1
      simp only [decide_eq_true_eq]
      rw [hacted.hands, show (lockPlaced s1).handed = s1.handed from hhanded, List.append_assoc]
      rfl
    · refine hacted.frame.trans ?_
      rw [hacted.pwu, hacted.pli]
      rfl

end Sys2Proof.Machine
end

section
/-! The legality of the poles (R19, R30, R32, R33, R57, R177), channel by channel, and that every event of PWU's keeps it. -/

namespace Sys2Proof.Machine

/-! ### What `PolesLegal` asks of one channel -/

/-- What `PolesLegal` asks of a channel, with the settings lock as it stands. -/
def ChannelAllowed (lock : Bool) (c : Channel) : Prop :=
  ChannelLegal c ∧ (c.good ≠ 0 → c.state = .raising ∨ c.state = .dropped ∨ lock = true) ∧
    (lock = true → c.mask = .autonomous)

/-- R177: the settings lock holds the tables it covers closed. -/
def OpenedAllowed (lock : Bool) (opened : Option OpenTable) : Prop :=
  lock = true → ∀ o, opened = some o → o.table = .sections ∨ o.table = .aux

theorem polesLegal_iff (s : State) : PolesLegal s ↔
    (∀ q, ChannelAllowed s.mge.lock (channel s q)) ∧ OpenedAllowed s.mge.lock s.mge.openTable := by
  constructor
  · rintro ⟨hp, hn, hgood, hlock⟩
    refine ⟨fun q => ⟨?_, hgood q, fun hl => ?_⟩, fun hl => (hlock hl).2.2⟩
    · cases q <;> assumption
    · obtain ⟨hmaskP, hmaskN, -⟩ := hlock hl
      cases q <;> assumption
  · rintro ⟨hchan, hopen⟩
    obtain ⟨hp, -, hmaskP⟩ := hchan .p
    obtain ⟨hn, -, hmaskN⟩ := hchan .n
    exact ⟨hp, hn, fun q => (hchan q).2.1, fun hl => ⟨hmaskP hl, hmaskN hl, hopen hl⟩⟩

theorem PolesLegal.allowed {s : State} (h : PolesLegal s) (q : Pole) : ChannelAllowed s.mge.lock (channel s q) :=
  ((polesLegal_iff s).mp h).1 q

/-- An event of PWU's own keeps the poles legal where it leaves the channels of its poles allowed. -/
theorem PolesActed.keeps_poles {poles : List Pole} {s t : State} {events : List Instr} (h : PolesActed poles s t events)
    (hchan : ∀ q ∈ poles, ChannelAllowed s.mge.lock (channel t q)) (hs : PolesLegal s) : PolesLegal t := by
  rw [polesLegal_iff] at hs ⊢
  obtain ⟨hall, hopen⟩ := hs
  rw [h.mge]
  refine ⟨fun q => ?_, hopen⟩
  by_cases hq : q ∈ poles
  · exact hchan q hq
  · rw [(h.kept q hq).1]
    exact hall q

/-! ### A sample (R23 to R32) -/

/-- A channel that has just stored a sample: allowed but for T_smp, which runs in every state, LOST included. -/
def ChannelSampled (lock : Bool) (c : Channel) : Prop :=
  c.tSmp.isSome = true ∧ c.last.isSome = true ∧ (c.tRaise.isSome = true ↔ c.state = .raising) ∧
  (c.tRetr.isSome = true ↔ c.state = .retrieving ∨ c.state = .lowering) ∧
  (c.state = .dropped → c.mask = .reportOnly) ∧
  (c.state = .retrieving → c.mask = .autonomous ∧ c.lastDropActed = true) ∧
  (c.suspect ≠ 0 → c.state = .suspect) ∧
  (c.good ≠ 0 → c.state = .raising ∨ c.state = .dropped ∨ lock = true) ∧ (lock = true → c.mask = .autonomous)

theorem ChannelAllowed.stored {lock : Bool} {c : Channel} (h : ChannelAllowed lock c) (x : LastSample) (n : Nat) :
    ChannelSampled lock { c with last := some x, tSmp := some n } := by
  obtain ⟨⟨-, hraise, hretr, hdropped, hretrieving, hsuspect, -⟩, hgood, hlock⟩ := h
  exact ⟨rfl, rfl, hraise, hretr, hdropped, hretrieving, hsuspect, hgood, hlock⟩

theorem ChannelSampled.allowed {lock : Bool} {c : Channel} (h : ChannelSampled lock c) (hs : c.state ≠ .lost) :
    ChannelAllowed lock c := by
  obtain ⟨hsmp, hlast, hraise, hretr, hdropped, hretrieving, hsuspect, hgood, hlock⟩ := h
  refine ⟨⟨⟨fun hn => ?_, fun hl => absurd hl hs⟩, hraise, hretr, hdropped, hretrieving, hsuspect, fun _ => hlast⟩, hgood, hlock⟩
  rw [hn] at hsmp
  exact nomatch hsmp

/-- Every transition leaves a legal channel: each enters its state with the timers and counts of that state. -/
theorem SampleOutcome.sampled {lock : Bool} {pole : Pole} {s t : State} {requests : List Instr}
    (h : SampleOutcome pole s t requests) (hs : ChannelSampled lock (channel s pole)) :
    ChannelSampled lock (channel t pole) ∧ (channel t pole).state ≠ .lost := by
  obtain ⟨hsmp, hlast, hraise, hretr, hdropped, hretrieving, hsuspect, hgood, hlock⟩ := id hs
  cases h with
  | kept h => exact ⟨hs, by rcases h with h | h | h <;> simp [h]⟩
  | drops h =>
    rw [channel_enterDropped]
    cases hm : (channel s pole).mask <;> simp_all [ChannelSampled]
  | wires h => rcases h with h | h | h | h <;> simp_all [ChannelSampled]
  | stows good requests h => rcases h with ⟨h | h, hg⟩ | ⟨h, hg⟩ <;> simp_all [ChannelSampled]
  | hooks requests h => rcases h with h | h <;> simp_all [ChannelSampled]
  | runs state count h hcount => rcases h with h | h <;> rcases hcount with ⟨hc, hz⟩ | hc <;> simp_all [ChannelSampled]
  | counts good h => rcases h with h | h <;> simp_all [ChannelSampled]

theorem sampleDone_keeps_poles (pole : Pole) (x : Sample) (s : State) (h : PolesLegal s) :
    PolesLegal (sampleDone pole x s) := by
  obtain ⟨requests, hout⟩ := judgeSample_outcome pole (min x.angle.toNat 900) x.contact x.hook (sampleStored pole x s)
  refine (acted_sampleDone (x := x) hout.acted).keeps_poles (fun q hq => ?_) h
  obtain rfl := List.mem_singleton.mp hq
  have hstored : ChannelSampled s.mge.lock (channel (sampleStored q x s) q) := by
    rw [channel_sampleStored]
    exact ChannelAllowed.stored (h.allowed q) _ _
  obtain ⟨hsampled, hstate⟩ := hout.sampled hstored
  rw [channel_sampleDone]
  exact hsampled.allowed hstate

/-! ### The other changes of a channel -/

section Changes

variable {lock : Bool} {c : Channel} (h : ChannelAllowed lock c)

include h

/-- R36: LOST stops every timer and sets both counts to 0. -/
theorem ChannelAllowed.lost : ChannelAllowed lock { c with
    state := .lost, prevAngle := none, suspect := 0, good := 0, tSmp := none, tRaise := none, tRetr := none } := by
  obtain ⟨-, -, hlock⟩ := h
  simp_all [ChannelAllowed, ChannelLegal]

/-- R35, R37: a channel that is up or raising is lowered. -/
theorem ChannelAllowed.lowered (t : ParamTable) (hs : canLower c.state = true) :
    ChannelAllowed lock (lowerOp.toChannel t c) := by
  obtain ⟨⟨hsmp, -⟩, -, hlock⟩ := h
  rcases (canLower_iff _).mp hs with hs | hs | hs <;> simp_all [ChannelAllowed, ChannelLegal, lowerOp]

/-- R34: a STOWED channel is released. -/
theorem ChannelAllowed.raised (t : ParamTable) (hs : c.state = .stowed) :
    ChannelAllowed lock (raiseOp.toChannel t c) := by
  obtain ⟨⟨hsmp, -, hretr, -, -, hsuspect, -⟩, -, hlock⟩ := h
  simp_all [ChannelAllowed, ChannelLegal, raiseOp]

/-- R38: T_retr restarts where it runs. -/
theorem ChannelAllowed.retrievedAgain (n : Nat) (hr : c.tRetr.isSome = true) :
    ChannelAllowed lock { c with tRetr := some n } := by
  obtain ⟨⟨hsmp, hraise, hretr, hlegal⟩, hgood, hlock⟩ := h
  exact ⟨⟨hsmp, hraise, by rw [← hretr, hr]; rfl, hlegal⟩, hgood, hlock⟩

/-- R20: the act mask is set in no DROPPED or RETRIEVING state and not under the lock. -/
theorem ChannelAllowed.masked (mask : ActMask) (hl : lock = false) (hs : ¬ (c.state = .dropped ∨ c.state = .retrieving)) :
    ChannelAllowed lock { c with mask := mask } := by
  obtain ⟨⟨hsmp, hraise, hretr, -, -, hsuspect, hlast⟩, hgood, -⟩ := h
  exact ⟨⟨hsmp, hraise, hretr, fun hd => absurd (.inl hd) hs, fun hr => absurd (.inr hr) hs, hsuspect, hlast⟩, hgood,
    fun hlock => nomatch hl.symm.trans hlock⟩

/-- R33: the lock retrieves a channel that is DROPPED, since it is so under REPORT_ONLY. -/
theorem ChannelAllowed.locked (t : ParamTable) : ChannelAllowed true (lockOp.toChannel t c) := by
  obtain ⟨⟨hsmp, hraise, hretr, hdropped, hretrieving, hsuspect, hlast⟩, -, -⟩ := h
  unfold lockOp
  dsimp only
  split
  · rename_i ha
    simp_all [ChannelAllowed, ChannelLegal]
  · rename_i ha
    have hnot : c.state ≠ .dropped := fun hd => ha ⟨hd, hdropped hd⟩
    simp_all [ChannelAllowed, ChannelLegal]

/-- A millisecond stops and starts no timer. -/
theorem ChannelAllowed.tick : ChannelAllowed lock c.tick := by
  obtain ⟨hlegal, hgood, hlock⟩ := h
  refine ⟨?_, hgood, hlock⟩
  simpa [ChannelLegal, Channel.tick, Timer.tick] using hlegal

end Changes

/-- R41, R42: a channel after either reset. -/
theorem channelAllowed_fresh {lock : Bool} {mask : ActMask} (smp : Nat) (hl : lock = true → mask = .autonomous) :
    ChannelAllowed lock (.fresh mask smp) := by
  simpa [ChannelAllowed, ChannelLegal, Channel.fresh] using hl

/-! ### PWU's other events -/

theorem loseSensor_keeps_poles (pole : Pole) (s : State) (h : PolesLegal s) : PolesLegal (loseSensor pole s) := by
  refine (acted_loseSensor pole s).keeps_poles (fun q hq => ?_) h
  obtain rfl := List.mem_singleton.mp hq
  rw [channel_loseSensor]
  exact (h.allowed q).lost

theorem repeatRetrieval_keeps_poles (pole : Pole) (s : State) (hr : (channel s pole).tRetr.isSome = true)
    (h : PolesLegal s) : PolesLegal (repeatRetrieval pole s) := by
  refine (acted_repeatRetrieval pole s).keeps_poles (fun q hq => ?_) h
  obtain rfl := List.mem_singleton.mp hq
  rw [channel_repeatRetrieval]
  exact (h.allowed q).retrievedAgain _ hr

/-- R37: T_raise runs in RAISING alone, where the suspect count is 0 already. -/
theorem startLowering_keeps_poles (pole : Pole) (s : State) (hr : (channel s pole).tRaise.isSome = true)
    (h : PolesLegal s) : PolesLegal (startLowering pole s) := by
  refine (acted_startLowering pole s).keeps_poles (fun q hq => ?_) h
  obtain rfl := List.mem_singleton.mp hq
  obtain ⟨⟨-, hraise, -, -, -, hsuspect, -⟩, -⟩ := h.allowed q
  have hstate := hraise.mp hr
  have hzero : (channel s q).suspect = 0 := by
    by_contra hne
    exact nomatch hstate.symm.trans (hsuspect hne)
  obtain ⟨-, hchan, -⟩ := startLowering_spec q s
  simp only [hchan, hzero]
  exact (h.allowed q).lowered s.mge.params (by rw [hstate]; rfl)

/-- An operation on different poles keeps the poles legal where it leaves each of them allowed. -/
theorem PoleOp.PerformedBy.keeps_poles {op : PoleOp} {f : Pole → State → State} (hf : op.PerformedBy f) {l : List Pole}
    (hl : l.Nodup) {s : State} (hop : ∀ q ∈ l, ChannelAllowed s.mge.lock (op.toChannel s.mge.params (channel s q)))
    (h : PolesLegal s) : PolesLegal (l.foldl (fun t q => f q t) s) := by
  obtain ⟨hacted, hafter⟩ := hf.foldl l hl s
  exact hacted.keeps_poles (fun q hq => (hafter q hq).1 ▸ hop q hq) h

theorem raisePoles_keeps_poles {poles : List Pole} (hn : poles.Nodup) (s : State) (h : PolesLegal s) :
    PolesLegal (raisePoles poles s).1 := by
  by_cases hs : ∀ pole ∈ poles, (channel s pole).state = .stowed
  · by_cases hm : s.smc.mode = .dewired
    · rw [raisePoles_busy (.inr hm)]
      exact h
    · by_cases hg : s.pwu.view.kind = .insulator ∨ s.pwu.view.kind = .wireless
      · rw [raisePoles_wrongSection hs hm hg]
        exact h
      · rw [raisePoles_ok hs hm hg]
        exact raiseOp_performed.keeps_poles hn (fun q hq => (h.allowed q).raised _ (hs q hq)) h
  · rw [raisePoles_busy (.inl hs)]
    exact h

theorem lowerPoles_keeps_poles {poles : List Pole} (hn : poles.Nodup) (s : State) (h : PolesLegal s) :
    PolesLegal (lowerPoles poles s).1 := by
  by_cases hb : LoweringBlocked poles s
  · rw [lowerPoles_busy hb]
    exact h
  · rw [lowerPoles_ok hb]
    exact lowerOp_performed.keeps_poles (hn.filter _)
      (fun q hq => (h.allowed q).lowered _ (mem_loweredPoles.mp hq).2) h

theorem setMask_keeps_poles (pole : Pole) (mask : ActMask) (s : State) (h : PolesLegal s) :
    PolesLegal (setMask pole mask s).1 := by
  cases hl : s.mge.lock with
  | true => rwa [setMask_locked hl]
  | false =>
    by_cases hb : (channel s pole).state = .dropped ∨ (channel s pole).state = .retrieving
    · rwa [setMask_busy hl hb]
    · rw [setMask_ok hl hb]
      refine (acted_setChannel pole _ s).keeps_poles (fun q hq => ?_) h
      obtain rfl := List.mem_singleton.mp hq
      rw [channel_setChannel_same]
      exact (h.allowed q).masked mask hl hb

/-! ### The settings lock (R33, R177) -/

theorem opened_abandonTable (cause : AbandonCause) (s : State) : (abandonTable cause s).mge.openTable = none := by
  cases h : s.mge.openTable with
  | none => simp only [abandonTable, h]
  | some o =>
    rw [abandonTable_open cause h, placeNotice_mge]
    cases o.table <;> rfl

/-- The lock leaves no table open that it covers. -/
theorem opened_abandonForLock (lock : Bool) (s : State) : OpenedAllowed lock (abandonForLock s).mge.openTable := by
  intro _ o ho
  unfold abandonForLock at ho
  split at ho
  · rename_i hn
    exact nomatch hn.symm.trans ho
  · rename_i x hx
    split at ho
    · exact nomatch (opened_abandonTable .lock s).symm.trans ho
    · rename_i hcovers
      obtain rfl : x = o := Option.some.inj (hx.symm.trans ho)
      rw [lockCovers_iff] at hcovers
      tauto

theorem setLock_keeps_poles (s : State) (h : PolesLegal s) : PolesLegal (setLock s) := by
  obtain ⟨hacted, hafter⟩ := setLock_acted s
  rw [polesLegal_iff, hacted.mge]
  refine ⟨fun q => ?_, opened_abandonForLock true s⟩
  rw [(hafter q).1]
  exact (h.allowed q).locked s.mge.params

theorem lockBody_keeps_poles (args : List Byte) (s : State) (h : PolesLegal s) : PolesLegal (lockBody args s).1 := by
  by_cases ha : args = []
  · cases hl : s.mge.lock with
    | true => rwa [lockBody_set ha hl]
    | false =>
      rw [lockBody_sets ha hl]
      exact setLock_keeps_poles s h
  · rwa [lockBody_malformed ha]

end Sys2Proof.Machine
end

section
/-! The legality of the poles under every step: the commands of the other blocks leave alone what it speaks of. -/

namespace Sys2Proof.Machine

/-- What `PolesLegal` reads of a state: the channels, the settings lock, and which table is open. -/
structure PoleView where
  chP    : Channel
  chN    : Channel
  lock   : Bool
  opened : Option TableId

/-- The view that a state gives. -/
def poleView (s : State) : PoleView :=
  { chP := s.pwu.chP, chN := s.pwu.chN, lock := s.mge.lock, opened := s.mge.openTable.map OpenTable.table }

theorem poleView_congr {s t : State} (hp : t.pwu = s.pwu) (hm : t.mge = s.mge) : poleView t = poleView s := by
  simp only [poleView, hp, hm]

/-- `PolesLegal`, said of the view. -/
def PoleView.Legal (v : PoleView) : Prop :=
  ChannelAllowed v.lock v.chP ∧ ChannelAllowed v.lock v.chN ∧
  (v.lock = true → ∀ x, v.opened = some x → x = .sections ∨ x = .aux)

theorem polesLegal_view (s : State) : PolesLegal s ↔ (poleView s).Legal := by
  have hopened : OpenedAllowed s.mge.lock s.mge.openTable ↔
      ((poleView s).lock = true → ∀ x, (poleView s).opened = some x → x = .sections ∨ x = .aux) := by
    cases h : s.mge.openTable <;> simp [OpenedAllowed, poleView, h]
  rw [polesLegal_iff, hopened]
  constructor
  · rintro ⟨hchan, hopen⟩
    exact ⟨hchan .p, hchan .n, hopen⟩
  · rintro ⟨hp, hn, hopen⟩
    refine ⟨fun q => ?_, hopen⟩
    cases q
    · exact hp
    · exact hn

/-- What leaves the view leaves the poles legal. -/
theorem polesLegal_of_view {s t : State} (hv : poleView t = poleView s) (h : PolesLegal s) : PolesLegal t := by
  rw [polesLegal_view] at h ⊢
  rwa [hv]

/-! ### The shared operations -/

@[simp] theorem poleView_hand (e : List Instr) (s : State) : poleView (hand e s) = poleView s := rfl
@[simp] theorem poleView_taken (c : Instr) (s : State) : poleView (taken c s) = poleView s := rfl
@[simp] theorem poleView_errorU (c : ErrCode) (s : State) : poleView (errorU c s) = poleView s := rfl
@[simp] theorem poleView_errorD (c : ErrCode) (s : State) : poleView (errorD c s) = poleView s := rfl
@[simp] theorem poleView_errorS (c : ErrCode) (s : State) : poleView (errorS c s) = poleView s := rfl
@[simp] theorem poleView_changeLanes (f : Lanes → Lanes) (s : State) : poleView (changeLanes f s) = poleView s := rfl
@[simp] theorem poleView_respond (dst : Node) (echo : Byte) (r : Reply) (s : State) :
    poleView (respond dst echo r s) = poleView s := rfl

@[simp] theorem poleView_setSlot (pole : Pole) (x : Slot) (s : State) : poleView (setSlot pole x s) = poleView s := by
  cases pole <;> rfl

@[simp] theorem poleView_placeNotice (l : List Byte) (s : State) : poleView (placeNotice l s) = poleView s :=
  poleView_congr (placeNotice_pwu s l) (placeNotice_mge s l)

theorem poleView_foldl {α : Type} (f : State → α → State) (h : ∀ s x, poleView (f s x) = poleView s)
    (l : List α) (s : State) : poleView (l.foldl f s) = poleView s := by
  induction l generalizing s with
  | nil => rfl
  | cons x rest ih => rw [List.foldl_cons, ih, h]

/-! ### Frames received, and the command slots -/

theorem poleView_receiveU (bytes : List Byte) (s : State) : poleView (receiveU bytes s) = poleView s := by
  have hg : ∀ f, poleView (forwardGeneral f s) = poleView s := fun f => by
    unfold forwardGeneral
    split <;> simp [forwardLane0, forwardLane2, apply_ite poleView]
  unfold receiveU
  split <;> simp [classifyU, forwardLane0, forwardLane2, apply_ite poleView, hg]

theorem poleView_receiveD (bytes : List Byte) (s : State) : poleView (receiveD bytes s) = poleView s := by
  have hs : ∀ f, poleView (passUpStatus f s) = poleView s := fun f => by
    rcases passUpStatus_spec f s with ⟨_, -, e⟩ | ⟨-, -, e⟩ | ⟨-, -, e⟩ <;> rw [e] <;> rfl
  have ho : ∀ f, poleView (passUpOther f s) = poleView s := fun f => by
    rcases passUpOther_spec f s with ⟨-, e⟩ | ⟨-, e⟩ <;> rw [e] <;> rfl
  unfold receiveD
  split <;> simp [classifyD, apply_ite poleView, hs, ho]

theorem poleView_receiveLine (bytes : List Byte) (s : State) : poleView (receiveLine bytes s) = poleView s := by
  have hj : ∀ f s, poleView (judgeLineFrame f s) = poleView s := fun f s => by
    unfold judgeLineFrame acceptSample setLastSeq
    (repeat' split) <;> rfl
  unfold receiveLine
  split
  · rfl
  · split
    · exact hj _ _
    · rfl

theorem poleView_startCommand (pole : Pole) (s : State) : poleView (startCommand pole s) = poleView s := by
  unfold startCommand
  split
  · rfl
  · exact poleView_setSlot _ _ _

theorem poleView_endCommand (pole : Pole) (acknowledged : Bool) (s : State) :
    poleView (endCommand pole acknowledged s) = poleView s := by
  cases acknowledged <;> simp [endCommand]

theorem poleView_takeSegment (f : Frame) (s : State) : poleView (takeSegment f s) = poleView s := by
  simp only [takeSegment, apply_ite poleView]
  (repeat' split) <;> rfl

/-! ### The section tracker -/

theorem poleView_publishView (v : View) (s : State) : poleView (publishView v s) = poleView s := by
  rcases publishView_spec v s with ⟨-, e⟩ | ⟨-, e⟩
  · rw [e]
  · rw [e, poleView_placeNotice]
    rfl

theorem poleView_lookupAndPublish (s : State) : poleView (lookupAndPublish s) = poleView s := poleView_publishView _ _

theorem poleView_endDeferral (s : State) : poleView (endDeferral s) = poleView s := by
  unfold endDeferral
  split
  · rfl
  · split
    · rfl
    · exact poleView_placeNotice _ _

theorem poleView_acceptPosition (route : Byte) (c : Half) (s : State) :
    poleView (acceptPosition route c s) = poleView s := by
  unfold acceptPosition
  rw [poleView_lookupAndPublish, poleView_endDeferral]
  split <;> rfl

theorem poleView_losePosition (s : State) : poleView (losePosition s) = poleView s := by
  unfold losePosition
  rw [poleView_hand, poleView_lookupAndPublish, poleView_endDeferral]
  rfl

/-! ### Supply, budget, traction and alarms -/

theorem poleView_publishMode (m : SupplyMode) (s : State) : poleView (publishMode m s) = poleView s := by
  rcases publishMode_spec m s with ⟨-, e⟩ | ⟨-, e⟩
  · rw [e]
  · rw [e, poleView_placeNotice]
    rfl

theorem poleView_evaluate (s : State) : poleView (evaluate s) = poleView s := by
  unfold evaluate
  rw [judgeExposure_spec]
  exact poleView_publishMode _ _

theorem poleView_recompute (s : State) : poleView (recompute s) = poleView s := by rw [recompute_spec]; rfl

theorem poleView_takeRecord (r : BudgetRecord) (s : State) : poleView (takeRecord r s) = poleView s := by
  unfold takeRecord
  simp only [apply_ite poleView]
  (repeat' split) <;> rfl

theorem poleView_holdStale (s : State) : poleView (holdStale s) = poleView s := by
  unfold holdStale
  simp only [apply_ite poleView, poleView_placeNotice]
  split <;> rfl

theorem poleView_judgeStatus (i : Int) (s : State) : poleView (judgeStatus i s) = poleView s := by
  unfold judgeStatus
  dsimp only
  (repeat' split) <;> rfl

theorem poleView_removeAlarm (r : AlarmRec) (s : State) : poleView (removeAlarm r s) = poleView s := by
  rw [removeAlarm, reportDropAck_eq]
  rfl

theorem poleView_raiseAlarm (key : AlarmKey) (acted : Bool) (s : State) :
    poleView (raiseAlarm key acted s) = poleView s := by
  unfold raiseAlarm
  split <;> rfl

theorem poleView_clearAlarm (key : AlarmKey) (s : State) : poleView (clearAlarm key s) = poleView s := by
  unfold clearAlarm
  split
  · rfl
  · split
    · rfl
    · exact poleView_removeAlarm _ _
    · rfl

theorem poleView_ackRecord (r : AlarmRec) (s : State) : poleView (ackRecord r s) = poleView s := by
  unfold ackRecord
  split
  · rw [reportDropAck_eq]
    rfl
  · exact poleView_removeAlarm _ _
  · rfl

/-! ### Port D and Port U -/

theorem poleView_grant (s : State) : poleView (grant s) = poleView s := by
  unfold grant startPortD
  (repeat' split) <;> rfl

theorem poleView_judgeLinkHeld (s : State) : poleView (judgeLinkHeld s) = poleView s := by
  unfold judgeLinkHeld
  split <;> rfl

theorem poleView_endPortD (x : PortDTx) (s : State) : poleView (endPortD x s) = poleView s := by
  unfold endPortD
  simp only [poleView_grant, apply_ite poleView, poleView_judgeLinkHeld]
  (repeat' split) <;> rfl

theorem poleView_startUpstream (s : State) : poleView (startUpstream s) = poleView s := by
  unfold startUpstream sendGroupA sendGroupB
  (repeat' split) <;> rfl

/-! ### Auxiliary loads -/

theorem OnlyAux.poleView {s t : State} (h : OnlyAux s t) : poleView t = poleView s :=
  poleView_congr ((congrArg State.pwu h.1).trans rfl) h.mge

@[simp] theorem poleView_setLoad (i : LoadIx) (r : LoadRec) (s : State) : poleView (setLoad i r s) = poleView s := rfl
@[simp] theorem poleView_joinWaiting (i : LoadIx) (s : State) : poleView (joinWaiting i s) = poleView s := rfl
@[simp] theorem poleView_leaveWaiting (i : LoadIx) (s : State) : poleView (leaveWaiting i s) = poleView s := rfl
@[simp] theorem poleView_leaveOn (i : LoadIx) (e : AuxEntry) (s : State) : poleView (leaveOn i e s) = poleView s := rfl
@[simp] theorem poleView_commandLoad (i : LoadIx) (on : Bool) (s : State) :
    poleView (commandLoad i on s) = poleView s := rfl

@[simp] theorem poleView_enterState (i : LoadIx) (new : LoadState) (cause : AuxCause) (s : State) :
    poleView (enterState i new cause s) = poleView s := (walked_enterState i new cause s).only.poleView

@[simp] theorem poleView_handReservation (before : Nat) (s : State) :
    poleView (handReservation before s) = poleView s := by
  unfold handReservation
  split <;> rfl

@[simp] theorem poleView_admissionPass (s : State) : poleView (admissionPass s) = poleView s :=
  poleView_foldl _ (fun s i => by
    unfold tryAdmit
    split
    · exact (only_admitLoad i s).poleView
    · rfl) _ _

@[simp] theorem poleView_excludeAndShed (s : State) : poleView (excludeAndShed s) = poleView s :=
  (only_excludeAndShed s).poleView

theorem poleView_requestOn (i : LoadIx) (s : State) : poleView (requestOn i s) = poleView s := by
  unfold requestOn
  dsimp only
  split <;> simp

theorem poleView_requestOff (i : LoadIx) (s : State) : poleView (requestOff i s) = poleView s := by
  unfold requestOff
  dsimp only
  split <;> simp

theorem poleView_takeRecordAxs (r : BudgetRecord) (s : State) : poleView (takeRecordAxs r s) = poleView s := by
  unfold takeRecordAxs
  simp only [poleView_handReservation, apply_ite poleView, poleView_admissionPass, poleView_excludeAndShed, ite_self]
  rfl

theorem poleView_takeStatus (i : LoadIx) (status : Byte) (s : State) :
    poleView (takeStatus i status s) = poleView s := by
  have hj : ∀ b s, poleView (judgeFault i b s) = poleView s := fun b s => by unfold judgeFault; split <;> simp
  simp [takeStatus, resendOff, apply_ite poleView, hj]

theorem poleView_retireLoad (old : AuxTable) (s : State) (i : LoadIx) :
    poleView (retireLoad old s i) = poleView s := by
  unfold retireLoad
  dsimp only
  (repeat' split) <;> simp

theorem poleView_setReservation (r : Nat) (s : State) : poleView (setReservation r s) = poleView s := rfl

theorem poleView_swapAux (t : AuxTable) (s : State) : poleView (swapAux t s) = poleView s := by
  rw [swapAux_eq, poleView_handReservation, poleView_admissionPass, poleView_excludeAndShed, retired,
    poleView_setReservation, retiredLoads, poleView_foldl _ (poleView_retireLoad _)]
  rfl

theorem poleView_commandAllOff (s : State) : poleView (commandAllOff s) = poleView s :=
  poleView_foldl _ (fun s i => by split <;> rfl) _ _

/-! ### Table loading (R169 to R173) -/

theorem poleView_restartOpenTimer (s : State) : poleView (restartOpenTimer s) = poleView s := by
  cases h : s.mge.openTable <;> simp [poleView, restartOpenTimer, h]

theorem poleView_copyToShadow (t : TableId) (s : State) : poleView (copyToShadow t s) = poleView s := by
  cases t <;> rfl

theorem poleView_storeWrite {t : TableId} {start count : Nat} {data : List Byte} {s s1 : State}
    (h : storeWrite t start count data s = some s1) : poleView s1 = poleView s := by
  cases t <;> obtain ⟨_, -, rfl⟩ := Option.map_eq_some_iff.mp h <;> rfl

theorem poleView_swapTable (t : TableId) (s : State) : poleView (swapTable t s).1 = poleView s := by
  cases t with
  | sections =>
    simp only [swapTable, swapSection]
    split
    · rfl
    · dsimp only
      split
      · rfl
      · exact poleView_lookupAndPublish _
  | aux =>
    simp only [swapTable]
    exact poleView_swapAux _ s
  | profile => rfl
  | parameter => rfl
  | classMap => rfl

theorem closeTable_keeps_poles (s : State) (h : PolesLegal s) : PolesLegal (closeTable s) := by
  rw [polesLegal_view] at h ⊢
  obtain ⟨hp, hn, -⟩ := h
  exact ⟨hp, hn, fun _ _ hx => nomatch hx⟩

/-- R169: under the lock no table is opened that it covers. -/
theorem openTableFor_keeps_poles (t : TableId) (source : Node) (s : State) (h : PolesLegal s) :
    PolesLegal (openTableFor t source s).1 := by
  unfold openTableFor
  split
  · exact h
  · split
    · exact h
    · rename_i hlock
      split
      · exact h
      · have hcopy := polesLegal_of_view (poleView_copyToShadow t s) h
        have hlocked : (copyToShadow t s).mge.lock = s.mge.lock := congrArg PoleView.lock (poleView_copyToShadow t s)
        rw [polesLegal_view] at hcopy ⊢
        obtain ⟨hp, hn, -⟩ := hcopy
        refine ⟨hp, hn, fun hl x hx => ?_⟩
        obtain rfl : t = x := Option.some.inj hx
        have hcovers : ¬ (t ≠ .sections ∧ t ≠ .aux) := fun hc =>
          hlock (by rw [(lockCovers_iff t).mpr hc, ← hlocked]; exact hl)
        tauto

theorem commitTable_keeps_poles (source : Node) (t : TableId) (s : State) (h : PolesLegal s) :
    PolesLegal (commitTable source t s).1 := by
  unfold commitTable
  split
  · split
    · exact polesLegal_of_view (poleView_restartOpenTimer s) h
    · exact polesLegal_of_view (poleView_swapTable t _) (closeTable_keeps_poles s h)
  · exact h

theorem abandonTable_keeps_poles (cause : AbandonCause) (s : State) (h : PolesLegal s) :
    PolesLegal (abandonTable cause s) := by
  obtain ⟨hchan, -, -, -, hlock, -⟩ := abandonTable_keeps cause s
  rw [polesLegal_iff, opened_abandonTable, hlock]
  exact ⟨fun q => hchan q ▸ h.allowed q, fun _ _ ho => nomatch ho⟩

theorem abandonBody_keeps_poles (source : Node) (t : TableId) (s : State) (h : PolesLegal s) :
    PolesLegal (abandonBody source t s).1 := by
  unfold abandonBody
  split
  · exact abandonTable_keeps_poles _ s h
  · exact h

theorem tableBody_keeps_poles (args : List Byte) {act : TableId → State → State × Reply} {s : State}
    (hact : ∀ t, PolesLegal (act t s).1) (h : PolesLegal s) : PolesLegal (tableBody args act s).1 := by
  unfold tableBody
  split
  · split
    · exact h
    · exact hact _
  · exact h

/-! ### Requests -/

theorem poleView_takeRequest {payload : List Byte} {q : Request} {s t : State}
    (h : takeRequest payload q s = some t) : poleView t = poleView s := by
  obtain ⟨-, -, -, rfl | ⟨_, -, -, -, -, rfl⟩⟩ := takeRequest_spec payload q s t h <;> rfl

/-- A request keeps the poles legal where its body does. -/
theorem runRequest_keeps_poles (code : ReqCode) (q : Request) {body : State → State × Reply} {s : State}
    (hbody : ∀ s1, PolesLegal s1 → PolesLegal (body s1).1) (h : PolesLegal s) :
    PolesLegal (runRequest code q body s) := by
  rcases runRequest_spec code q body s with ⟨-, e⟩ | ⟨s1, h1, he⟩
  · rwa [e]
  · have hs1 := polesLegal_of_view (poleView_takeRequest h1) h
    rcases he with ⟨-, e⟩ | ⟨-, e⟩
    · rw [e]
      exact polesLegal_of_view (poleView_respond _ _ _ _) hs1
    · rw [e]
      exact polesLegal_of_view (poleView_respond _ _ _ _) (hbody s1 hs1)

theorem poleView_readBody (args : List Byte) (fields : State → List Byte) (s : State) :
    poleView (readBody args fields s).1 = poleView s := by
  unfold readBody
  split <;> rfl

theorem poleView_readErrorsBody (args : List Byte) (s : State) :
    poleView (readErrorsBody args s).1 = poleView s := by
  unfold readErrorsBody
  split <;> rfl

theorem poleView_readTableBody (args : List Byte) (s : State) : poleView (readTableBody args s).1 = poleView s := by
  unfold readTableBody
  (repeat' split) <;> rfl

theorem poleView_ackBody (args : List Byte) (s : State) : poleView (ackBody args s).1 = poleView s := by
  unfold ackBody
  (repeat' split) <;> try rfl
  · exact poleView_foldl _ (fun s r => poleView_ackRecord r s) _ _
  all_goals exact poleView_ackRecord _ _

theorem poleView_writeBody (source : Node) (args : List Byte) (s : State) :
    poleView (writeBody source args s).1 = poleView s := by
  unfold writeBody
  (repeat' split) <;> try rfl
  rename_i h
  exact (poleView_restartOpenTimer _).trans (poleView_storeWrite h)

theorem polesOf_nodup {c : Byte} {poles : List Pole} (h : polesOf c = some poles) : poles.Nodup := by
  unfold polesOf at h
  split at h
  · cases h; decide
  · split at h
    · cases h; decide
    · split at h
      · cases h; decide
      · cases h

theorem polesBody_keeps_poles (args : List Byte) {act : List Pole → State → State × Status} {s : State}
    (hact : ∀ poles : List Pole, poles.Nodup → PolesLegal (act poles s).1) (h : PolesLegal s) :
    PolesLegal (polesBody args act s).1 := by
  unfold polesBody
  split
  · split
    · exact h
    · rename_i hp
      exact hact _ (polesOf_nodup hp)
  · exact h

theorem maskBody_keeps_poles (args : List Byte) (s : State) (h : PolesLegal s) : PolesLegal (maskBody args s).1 := by
  unfold maskBody
  split
  · split
    · exact setMask_keeps_poles _ _ s h
    · exact h
  · exact h

/-! ### The two resets and the passing of time -/

/-- R41, R178: at RESTART the channels start afresh under their act masks; the lock stays and no table is open. -/
theorem poleView_restartAll (s : State) : poleView (restartAll s) =
    { chP := restartChannel s.mge.params s.pwu.chP, chN := restartChannel s.mge.params s.pwu.chN, lock := s.mge.lock,
      opened := none } := by
  unfold restartAll
  rw [poleView_commandAllOff]
  exact (poleView_placeNotice _ _).trans rfl

theorem restartAll_keeps_poles (s : State) (h : PolesLegal s) : PolesLegal (restartAll s) := by
  obtain ⟨-, -, hmaskP⟩ := h.allowed .p
  obtain ⟨-, -, hmaskN⟩ := h.allowed .n
  rw [polesLegal_view, poleView_restartAll]
  exact ⟨channelAllowed_fresh _ hmaskP, channelAllowed_fresh _ hmaskN, fun _ _ hx => nomatch hx⟩

theorem tick_keeps_poles (s : State) (h : PolesLegal s) : PolesLegal (tick s) := by
  have hopened : (poleView (tick s)).opened = (poleView s).opened := by
    cases ho : s.mge.openTable <;> simp [poleView, tick, ho]
  rw [polesLegal_view] at h ⊢
  obtain ⟨hp, hn, hopen⟩ := h
  exact ⟨hp.tick, hn.tick, fun hl => hopened ▸ hopen hl⟩

/-! ### Every command -/

/-- The commands that act on a pole, set the lock, or open or close a table. -/
def actsOnPoles : Instr → Bool
  | .powerOnReset | .upstreamTxEnd | .sampleAccepted _ _ | .tSmpExpiry _ | .tRaiseExpiry _ | .tRetrExpiry _
  | .poleRaise _ | .poleLower _ | .setActMask _ | .lockSettings _ | .tableOpen _ | .tableCommit _ | .tableAbandon _
  | .tOpenExpiry => true
  | _ => false

/-- A request whose body keeps the view keeps it. -/
theorem poleView_runRequest (code : ReqCode) (q : Request) {body : State → State × Reply} {s : State}
    (hbody : ∀ s1, poleView (body s1).1 = poleView s1) : poleView (runRequest code q body s) = poleView s := by
  rcases runRequest_spec code q body s with ⟨-, e⟩ | ⟨s1, h1, ⟨-, e⟩ | ⟨-, e⟩⟩
  · rw [e]
  · rw [e, poleView_respond, poleView_takeRequest h1]
  · rw [e, poleView_respond, hbody, poleView_takeRequest h1]

/-- Every other command leaves the channels, the lock and the open table as they are. -/
theorem exec_poleView (c : Instr) (s t : State) (hc : actsOnPoles c = false) (hx : exec c s = .next t) :
    poleView t = poleView s := by
  cases c <;> simp only [actsOnPoles, Bool.true_eq_false] at hc <;> obtain rfl : _ = t := Host.Outcome.next.inj hx
  case portUFrameReceived => split; exacts [rfl, poleView_receiveU _ _]
  case positionFrame =>
    (repeat' split) <;> try rfl
    exact poleView_acceptPosition _ _ _
  case tPosExpiry => split; exacts [rfl, poleView_losePosition _]
  case sctParameterCommit => split; exacts [poleView_publishView _ _, rfl]
  case tractionDemand => split <;> rfl
  case auxRequestOn => split; exacts [rfl, poleView_requestOn _ _, rfl]
  case auxRequestOff => split; exacts [rfl, poleView_requestOff _ _, rfl]
  case mgmtSegment => exact poleView_takeSegment _ _
  case tSegExpiry => split <;> rfl
  case portDFrameReceived => split; exacts [rfl, poleView_receiveD _ _]
  case driveStatus => split; exacts [rfl, poleView_judgeStatus _ _]
  case auxStatus =>
    (repeat' split) <;> try rfl
    exact poleView_takeStatus _ _ _
  case portSFrameReceived => split; exacts [rfl, poleView_receiveLine _ _]
  case commandTxStart =>
    (repeat' split) <;> try rfl
    exact poleView_startCommand _ _
  case arbitrationLost =>
    split
    · rfl
    · dsimp only
      split; exacts [rfl, poleView_setSlot _ _ _]
  case commandTxEnd =>
    split
    · rfl
    · dsimp only
      split; exacts [rfl, poleView_endCommand _ _ _]
  case tCmdExpiry => split <;> simp
  case sectionViewAtPwu => rfl
  case poleReport => exact poleView_evaluate _
  case sectionViewAtSmc => exact poleView_evaluate _
  case poleDropAckReport => exact poleView_evaluate _
  case noLineTimerExpiry => split; exacts [rfl, poleView_publishMode _ _]
  case voltageSample pole _ => rw [poleView_recompute]; cases pole <;> rfl
  case modeAtCbu => exact poleView_recompute _
  case sectionViewAtCbu => exact poleView_recompute _
  case reservationAtCbu => exact poleView_recompute _
  case cbuParameterCommit => exact poleView_recompute _
  case budgetRecordAtTau => exact poleView_takeRecord _ _
  case budgetRecordAtAxs => exact poleView_takeRecordAxs _ _
  case cutRequest => rfl
  case tStaleExpiry => split; exacts [rfl, poleView_holdStale _]
  case tCutExpiry => split <;> rfl
  case minOnExpiry => rfl
  case minOffExpiry => split <;> simp
  case axsParameterCommit => simp [reviewLoads]
  case alarmRaise => exact poleView_raiseAlarm _ _ _
  case alarmClear => exact poleView_clearAlarm _ _
  case portDGrant => exact poleView_grant _
  case portDTxEnd => split; exacts [rfl, poleView_endPortD _ _]
  case holdStart => split <;> rfl
  case holdEnd =>
    split
    · rw [poleView_grant, poleView_judgeLinkHeld]; rfl
    · rfl
  case holdTimerExpiry => split <;> rfl
  case upstreamTxStart => split; exacts [rfl, poleView_startUpstream _]
  case readIdent => exact poleView_runRequest _ _ (poleView_readBody _ _)
  case readState => exact poleView_runRequest _ _ (poleView_readBody _ _)
  case readLoads => exact poleView_runRequest _ _ (poleView_readBody _ _)
  case readAlarms => exact poleView_runRequest _ _ (poleView_readBody _ _)
  case readErrors => exact poleView_runRequest _ _ (poleView_readErrorsBody _)
  case ackAlarm => exact poleView_runRequest _ _ (poleView_ackBody _)
  case tableWrite => exact poleView_runRequest _ _ (poleView_writeBody _ _)
  case tableRead => exact poleView_runRequest _ _ (poleView_readTableBody _)
  case restart =>
    split
    · rfl
    · rename_i h1
      have e := poleView_takeRequest h1
      split <;> exact e
  case unknownRequest =>
    (repeat' split) <;> try rfl
    rename_i h1
    rw [poleView_respond, poleView_takeRequest h1]

/-- Every command keeps the poles legal. -/
theorem exec_keeps_poles (c : Instr) (s t : State) (h : PolesLegal s) (hx : exec c s = .next t) : PolesLegal t := by
  cases hc : actsOnPoles c with
  | false => exact polesLegal_of_view (exec_poleView c s t hc hx) h
  | true =>
    cases c <;> simp only [actsOnPoles, Bool.false_eq_true] at hc
    case sampleAccepted pole x =>
      obtain rfl := Host.Outcome.next.inj ((exec_sampleAccepted pole x s).symm.trans hx)
      exact sampleDone_keeps_poles pole x s h
    all_goals obtain rfl : _ = t := Host.Outcome.next.inj hx
    case powerOnReset =>
      exact (polesLegal_view _).mpr ⟨channelAllowed_fresh _ fun _ => rfl, channelAllowed_fresh _ fun _ => rfl,
        fun _ _ hx => nomatch hx⟩
    case upstreamTxEnd =>
      split
      · exact h
      · dsimp only
        split; exacts [restartAll_keeps_poles _ h, h]
    case tSmpExpiry => split; exacts [h, loseSensor_keeps_poles _ s h]
    case tRaiseExpiry pole =>
      split
      · exact h
      · rename_i hr
        refine startLowering_keeps_poles pole _ ?_ (polesLegal_of_view (poleView_placeNotice _ s) h)
        rw [channel_placeNotice, hr]
        rfl
    case tRetrExpiry pole =>
      split
      · exact h
      · rename_i hr
        exact repeatRetrieval_keeps_poles pole s (by rw [hr]; rfl) h
    case poleRaise =>
      exact runRequest_keeps_poles _ _
        (fun s1 h1 => polesBody_keeps_poles _ (fun _ hn => raisePoles_keeps_poles hn s1 h1) h1) h
    case poleLower =>
      exact runRequest_keeps_poles _ _
        (fun s1 h1 => polesBody_keeps_poles _ (fun _ hn => lowerPoles_keeps_poles hn s1 h1) h1) h
    case setActMask => exact runRequest_keeps_poles _ _ (maskBody_keeps_poles _) h
    case lockSettings => exact runRequest_keeps_poles _ _ (lockBody_keeps_poles _) h
    case tableOpen q =>
      exact runRequest_keeps_poles _ _
        (fun s1 h1 => tableBody_keeps_poles _ (fun t => openTableFor_keeps_poles t q.source s1 h1) h1) h
    case tableCommit q =>
      exact runRequest_keeps_poles _ _
        (fun s1 h1 => tableBody_keeps_poles _ (fun t => commitTable_keeps_poles q.source t s1 h1) h1) h
    case tableAbandon q =>
      exact runRequest_keeps_poles _ _
        (fun s1 h1 => tableBody_keeps_poles _ (fun t => abandonBody_keeps_poles q.source t s1 h1) h1) h
    case tOpenExpiry => exact abandonTable_keeps_poles _ s h

/-- Settles O55: PWU's events leave each channel allowed, the lock is judged where it is set, and no other command
touches the channels. -/
theorem polesStayLegal : Obligations.PolesStayLegal := by
  intro s t h hs
  rcases step_cases s t hs with ⟨c, rest, -, hx⟩ | ⟨c, -, -, hx⟩ | ⟨-, -, rfl⟩
  · exact exec_keeps_poles c { s with pending := rest } t h hx
  · exact exec_keeps_poles c s t h hx
  · exact tick_keeps_poles s h

end Sys2Proof.Machine
end

section
/-! Reading and writing the frames of the three ports (R147, R180 to R182): the parser of each kind of frame accepts exactly
the bytes that the writer of that kind gives. -/

namespace Sys2Proof.Machine

/-! ### Packed bytes and runs of bytes with a check sequence -/

/-- A word is two fields side by side exactly when reading each field gives it back (R183). -/
theorem eq_append_iff {m n : Nat} (x : BitVec (m + n)) (a : BitVec m) (b : BitVec n) :
    x = a ++ b ↔ x.extractLsb' n m = a ∧ x.extractLsb' 0 n = b := by
  constructor
  · rintro rfl
    exact ⟨BitVec.extractLsb'_append_eq_left, BitVec.extractLsb'_append_eq_right⟩
  · rintro ⟨rfl, rfl⟩
    exact BitVec.extractLsb'_append_extractLsb'.symm

/-- R182: byte 0 of a Port S frame holds three fields. -/
theorem lineByte0_eq_iff (b : Byte) (priority : BitVec 2) (source : BitVec 4) (kind : BitVec 2) :
    b = (priority ++ source ++ kind : BitVec 8) ↔
      b.extractLsb' 6 2 = priority ∧ b.extractLsb' 2 4 = source ∧ b.extractLsb' 0 2 = kind := by
  have hp : (b.extractLsb' 2 6).extractLsb' 4 2 = b.extractLsb' 6 2 := by
    ext i hi
    simp only [BitVec.getElem_extractLsb', BitVec.getLsbD_extractLsb']
    grind
  have hs : (b.extractLsb' 2 6).extractLsb' 0 4 = b.extractLsb' 2 4 := by
    ext i hi
    simp only [BitVec.getElem_extractLsb', BitVec.getLsbD_extractLsb']
    grind
  rw [eq_append_iff (m := 6) (n := 2) b, eq_append_iff (m := 2) (n := 4), hp, hs, and_assoc]

/-- A run of bytes cut at `n` carries the check of its first part exactly when it is a payload of that length followed by
the payload's check. -/
theorem cut_check_iff {check : List Byte → List Byte} (hcheck : ∀ l, (check l).length = 2) (rest payload : List Byte)
    (n : Nat) :
    (rest.length = n + 2 ∧ rest.drop n = check (rest.take n)) ∧ rest.take n = payload ↔
      n = payload.length ∧ rest = payload ++ check payload := by
  constructor
  · rintro ⟨⟨hlen, hdrop⟩, rfl⟩
    exact ⟨by rw [List.length_take]; omega, by rw [← hdrop, List.take_append_drop]⟩
  · rintro ⟨rfl, rfl⟩
    simp [hcheck]

theorem length_be16 (h : Half) : (be16 h).length = 2 := rfl

/-! ### Port S frames (R182) -/

theorem parseLine_short {bytes : List Byte} (h : bytes.length < 2) : parseLine bytes = none := by
  match bytes with
  | [] => rfl
  | [_] => rfl
  | _ :: _ :: _ => exact absurd h (by simp)

theorem parseLine_cons_iff (b0 b1 : Byte) (rest : List Byte) (f : LineFrame) :
    parseLine (b0 :: b1 :: rest) = some f ↔ f.payload.length ≤ 15 ∧ b0 :: b1 :: rest = lineWire f := by
  obtain ⟨priority, source, kind, dst, payload⟩ := f
  have hcut := cut_check_iff (fun p => length_be16 (crc16 (b0 :: b1 :: p))) rest payload (b1.extractLsb' 0 4).toNat
  have hn : (b1.extractLsb' 0 4).toNat = payload.length ↔
      payload.length ≤ 15 ∧ b1.extractLsb' 0 4 = BitVec.ofNat 4 payload.length := by
    rw [BitVec.toNat_eq_nat, show (2 : Nat) ^ 4 = 15 + 1 from rfl, Nat.lt_succ_iff]
  calc parseLine (b0 :: b1 :: rest) = some ⟨priority, source, kind, dst, payload⟩
      ↔ (b0.extractLsb' 6 2 = priority ∧ b0.extractLsb' 2 4 = source ∧ b0.extractLsb' 0 2 = kind) ∧
          b1.extractLsb' 4 4 = dst ∧ (b1.extractLsb' 0 4).toNat = payload.length ∧
          rest = payload ++ be16 (crc16 (b0 :: b1 :: payload)) := by
        rw [← hcut]
        simp only [parseLine, Option.ite_none_left_eq_some, not_not, Option.some.injEq, LineFrame.mk.injEq, ne_eq]
        tauto
    _ ↔ b0 = (priority ++ source ++ kind : BitVec 8) ∧ payload.length ≤ 15 ∧
          b1 = (dst ++ BitVec.ofNat 4 payload.length : BitVec 8) ∧
          rest = payload ++ be16 (crc16 (b0 :: b1 :: payload)) := by
        rw [lineByte0_eq_iff, eq_append_iff (m := 4) (n := 4) b1, hn]
        tauto
    _ ↔ payload.length ≤ 15 ∧ b0 :: b1 :: rest = lineWire ⟨priority, source, kind, dst, payload⟩ := by
        simp only [lineWire, List.cons_append, List.nil_append, List.cons.injEq]
        constructor
        · rintro ⟨rfl, hlen, rfl, rfl⟩
          exact ⟨hlen, rfl, rfl, rfl⟩
        · rintro ⟨hlen, rfl, rfl, rfl⟩
          exact ⟨rfl, hlen, rfl, rfl⟩

/-- R182, R181: reading and writing a Port S frame agree. -/
theorem parseLine_iff (bytes : List Byte) (f : LineFrame) :
    parseLine bytes = some f ↔ f.payload.length ≤ 15 ∧ bytes = lineWire f := by
  match bytes with
  | b0 :: b1 :: rest => exact parseLine_cons_iff b0 b1 rest f
  | [] => simp [parseLine_short, lineWire]
  | [_] => simp [parseLine_short, lineWire]

/-- R44, R182: the bytes of a command frame are those of a frame of Port S. -/
theorem commandWire_eq_lineWire (pole : Pole) (cmd : RetrieverCmd) :
    commandWire pole cmd = lineWire
      { priority := 1, source := 1, kind := 2, dst := poleAddress pole, payload := [retrieverCode cmd] } := rfl

theorem parseLine_commandWire (pole : Pole) (cmd : RetrieverCmd) : parseLine (commandWire pole cmd) =
    some { priority := 1, source := 1, kind := 2, dst := poleAddress pole, payload := [retrieverCode cmd] } :=
  (parseLine_iff _ _).mpr ⟨by simp, commandWire_eq_lineWire pole cmd⟩

/-! ### Sample payloads (R182) -/

theorem samplePayload_length {payload : List Byte} {x : Sample} (h : samplePayload payload = some x) :
    payload.length = 6 := by
  unfold samplePayload at h
  split at h
  · rfl
  · cases h

theorem samplePayload_eq (seq a1 a0 status v1 v0 : Byte) : samplePayload [seq, a1, a0, status, v1, v0] = some
    { seq := seq, angle := a1 ++ a0, contact := status.getLsbD 0, hook := status.getLsbD 1,
      volts := (v1 ++ v0 : Half).extractLsb' 0 10 } := by
  rw [← BitVec.setWidth_eq_extractLsb' (by decide)]
  rfl

/-! ### Frames of Ports U and D (R147, R180) -/

theorem parseFrame_short {bytes : List Byte} (h : bytes.length < 4) : parseFrame bytes = .error .length := by
  match bytes with
  | [] => rfl
  | [_] => rfl
  | [_, _] => rfl
  | [_, _, _] => rfl
  | _ :: _ :: _ :: _ :: _ => exact absurd h (by simp)

section Header

variable (b0 b1 b2 b3 : Byte) (rest : List Byte)

/-- R147, checks 1 and 2: the payload length is at most 32 and is that of the bytes received. -/
def FrameSized : Prop := b3.toNat ≤ 32 ∧ rest.length = b3.toNat + 2

/-- R147, check 3: the last two bytes are the check sequence of those before them. -/
def FrameChecked : Prop :=
  rest.drop b3.toNat = be16 (crc16 (b0 :: b1 :: b2 :: b3 :: rest.take b3.toNat))

variable {b0 b1 b2 b3 : Byte} {rest : List Byte}

theorem parseFrame_notSized (h : ¬ FrameSized b3 rest) :
    parseFrame (b0 :: b1 :: b2 :: b3 :: rest) = .error .length := by
  simp only [FrameSized, not_and_or, not_le] at h
  rcases h with h | h
  · exact if_pos h
  · simp only [parseFrame, ne_eq, h, not_false_eq_true, if_true, ite_self]

theorem parseFrame_notChecked (hs : FrameSized b3 rest) (h : ¬ FrameChecked b0 b1 b2 b3 rest) :
    parseFrame (b0 :: b1 :: b2 :: b3 :: rest) = .error .checkFailed := by
  obtain ⟨hle, hlen⟩ := hs
  exact (if_neg (not_lt.mpr hle)).trans ((if_neg (not_not.mpr hlen)).trans (if_pos h))

theorem parseFrame_checked (hs : FrameSized b3 rest) (h : FrameChecked b0 b1 b2 b3 rest) :
    parseFrame (b0 :: b1 :: b2 :: b3 :: rest) =
      if b2.extractLsb' 0 6 = (0 : Node) then .error .badField else .ok (frameOf b0 b1 b2 (rest.take b3.toNat)) := by
  obtain ⟨hle, hlen⟩ := hs
  exact (if_neg (not_lt.mpr hle)).trans ((if_neg (not_not.mpr hlen)).trans (if_neg (not_not.mpr h)))

/-- R147: the checks of a run of bytes that holds a header, as one condition. -/
theorem parseFrame_ok_iff (f : Frame) : parseFrame (b0 :: b1 :: b2 :: b3 :: rest) = .ok f ↔
    (FrameSized b3 rest ∧ FrameChecked b0 b1 b2 b3 rest) ∧ b2.extractLsb' 0 6 ≠ (0 : Node) ∧
      frameOf b0 b1 b2 (rest.take b3.toNat) = f := by
  by_cases hs : FrameSized b3 rest
  · by_cases hc : FrameChecked b0 b1 b2 b3 rest
    · rw [parseFrame_checked hs hc]
      split <;> simp_all
    · simp [parseFrame_notChecked hs hc, hc]
  · simp [parseFrame_notSized hs, hs]

/-- R180: the fields that a frame read from its header bytes has. -/
theorem frameOf_eq_iff (payload : List Byte) (f : Frame) : frameOf b0 b1 b2 payload = f ↔
    b0 = (f.cls ++ f.flags : BitVec 8) ∧ b1 = (f.dstHigh ++ f.dst : BitVec 8) ∧
      b2 = (f.srcHigh ++ f.src : BitVec 8) ∧ payload = f.payload := by
  obtain ⟨cls, flags, dst, src, dstHigh, srcHigh, payload'⟩ := f
  rw [eq_append_iff (m := 4) (n := 4) b0, eq_append_iff (m := 2) (n := 6) b1, eq_append_iff (m := 2) (n := 6) b2, frameOf,
    Frame.mk.injEq]
  tauto

theorem frame_wf_iff (f : Frame) : f.wf = true ↔ f.payload.length ≤ 32 ∧ f.src ≠ 0 := by
  rw [Frame.wf, Bool.and_eq_true, decide_eq_true_iff, decide_eq_true_iff]
  rfl

theorem parseFrame_cons_iff (f : Frame) : parseFrame (b0 :: b1 :: b2 :: b3 :: rest) = .ok f ↔
    f.wf = true ∧ b0 :: b1 :: b2 :: b3 :: rest = frameWire f := by
  have hcut := cut_check_iff (fun p => length_be16 (crc16 (b0 :: b1 :: b2 :: b3 :: p))) rest f.payload b3.toNat
  have hn (hle : f.payload.length ≤ 32) : b3.toNat = f.payload.length ↔ b3 = BitVec.ofNat 8 f.payload.length := by
    rw [BitVec.toNat_eq_nat, and_iff_right (by omega)]
  calc parseFrame (b0 :: b1 :: b2 :: b3 :: rest) = .ok f
      ↔ (b0 = (f.cls ++ f.flags : BitVec 8) ∧ b1 = (f.dstHigh ++ f.dst : BitVec 8) ∧
          b2 = (f.srcHigh ++ f.src : BitVec 8)) ∧ b2.extractLsb' 0 6 ≠ (0 : Node) ∧ b3.toNat ≤ 32 ∧
          b3.toNat = f.payload.length ∧ rest = f.payload ++ be16 (crc16 (b0 :: b1 :: b2 :: b3 :: f.payload)) := by
        rw [← hcut, parseFrame_ok_iff, frameOf_eq_iff, FrameSized, FrameChecked]
        tauto
    _ ↔ f.wf = true ∧ b0 :: b1 :: b2 :: b3 :: rest = frameWire f := by
        rw [frame_wf_iff]
        simp only [frameWire, frameHeader, List.cons_append, List.nil_append, List.cons.injEq]
        constructor
        · rintro ⟨⟨rfl, rfl, rfl⟩, hsrc, hle, hlen, rfl⟩
          rw [BitVec.extractLsb'_append_eq_right] at hsrc
          rw [hlen] at hle
          exact ⟨⟨hle, hsrc⟩, rfl, rfl, rfl, (hn hle).mp hlen, (hn hle).mp hlen ▸ rfl⟩
        · rintro ⟨⟨hle, hsrc⟩, rfl, rfl, rfl, hb3, rfl⟩
          have hlen := (hn hle).mpr hb3
          rw [BitVec.extractLsb'_append_eq_right]
          exact ⟨⟨rfl, rfl, rfl⟩, hsrc, hlen ▸ hle, hlen, hb3 ▸ rfl⟩

end Header

/-- R147, R180, R181: reading and writing a frame agree. -/
theorem parseFrame_iff (bytes : List Byte) (f : Frame) :
    parseFrame bytes = .ok f ↔ f.wf = true ∧ bytes = frameWire f := by
  match bytes with
  | b0 :: b1 :: b2 :: b3 :: rest => exact parseFrame_cons_iff f
  | [] | [_] | [_, _] | [_, _, _] => simp [parseFrame_short, frameWire, frameHeader]

/-- R147: the refusals, in order. -/
theorem parseFrame_refused (bytes : List Byte) :
    let n := (bytes.getD 3 0).toNat
    let sized := n ≤ 32 ∧ bytes.length = n + 6
    let checked := bytes.drop (n + 4) = be16 (crc16 (bytes.take (n + 4)))
    (¬ sized → parseFrame bytes = .error .length) ∧ (sized → ¬ checked → parseFrame bytes = .error .checkFailed) ∧
    (sized → checked → (bytes.getD 2 0).extractLsb' 0 6 = (0 : Node) → parseFrame bytes = .error .badField) := by
  by_cases hshort : bytes.length < 4
  · intro n sized checked
    have hsized : ¬ sized := fun ⟨_, hlen⟩ => by omega
    exact ⟨fun _ => parseFrame_short hshort, fun h => absurd h hsized, fun h => absurd h hsized⟩
  · match bytes, hshort with
    | b0 :: b1 :: b2 :: b3 :: rest, _ =>
      intro n sized checked
      have hs : sized ↔ FrameSized b3 rest := by simp [sized, n, FrameSized]
      have hc : checked ↔ FrameChecked b0 b1 b2 b3 rest := Iff.rfl
      rw [hs, hc]
      exact ⟨parseFrame_notSized, parseFrame_notChecked, fun hs hc h => (parseFrame_checked hs hc).trans (if_pos h)⟩
    | [], h | [_], h | [_, _], h | [_, _, _], h => exact absurd (by simp) h

/-- Settles O35: each port's parser is the inverse of its writer, and the refusals follow R147's order. -/
theorem frameAcceptance : Obligations.FrameAcceptance := by
  refine ⟨by decide +kernel, parseLine_iff, fun payload h => ?_, samplePayload_eq, fun pole cmd => ?_, parseFrame_iff,
    parseFrame_refused⟩
  · cases hx : samplePayload payload with
    | none => rfl
    | some x => exact absurd (samplePayload_length hx) h
  · cases pole <;> cases cmd <;> exact parseLine_commandWire _ _

end Sys2Proof.Machine
end

section
/-! Frames received on Port S (R47 to R49, R54, R55): the judgement of a frame, case by case. -/

namespace Sys2Proof.Machine

/-- The state after a frame for the coordinator whose check is good: the line idle, its acknowledge slot dominant (R47). -/
def lineHeard (s : State) : State := { s with pli.lineBusy := false, pli.ackDriven := true }

theorem errorS_eq (c : ErrCode) (s : State) :
    errorS c s = { s with pli.err := tookCode s.pli.err c (errCodeNum c - 1) } := by
  rw [errorS, takeCode_spec]

theorem lastSeq_setLastSeq_same (pole : Pole) (seq : Byte) (s : State) :
    lastSeq (setLastSeq pole seq s) pole = some seq := by
  cases pole <;> rfl

theorem lastSeq_setLastSeq_other {pole q : Pole} (h : q ≠ pole) (seq : Byte) (s : State) :
    lastSeq (setLastSeq pole seq s) q = lastSeq s q := by
  cases pole <;> cases q <;> simp_all [lastSeq, setLastSeq]

theorem setLastSeq_frame (pole : Pole) (seq : Byte) (s : State) : setLastSeq pole seq s = { s with
    pli.seqP := (setLastSeq pole seq s).pli.seqP, pli.seqN := (setLastSeq pole seq s).pli.seqN } := by
  cases pole <;> rfl

theorem poleOfSource_poleAddress (pole : Pole) : poleOfSource (poleAddress pole) = some pole := by
  cases pole <;> rfl

theorem poleOfSource_none {source : BitVec 4} (hp : source ≠ 2) (hn : source ≠ 3) : poleOfSource source = none :=
  (if_neg hp).trans (if_neg hn)

/-! ### A frame for the coordinator (R48, R49) -/

section Judged

variable {f : LineFrame} (s : State)

theorem judgeLineFrame_unknownKind (h1 : f.kind ≠ 1) (h2 : f.kind ≠ 2) : judgeLineFrame f s = errorS .badField s :=
  if_pos ⟨h1, h2⟩

theorem judgeLineFrame_wrongLength (h : (f.kind = 1 ∧ f.payload.length ≠ 6) ∨ (f.kind = 2 ∧ f.payload.length ≠ 1)) :
    judgeLineFrame f s = errorS .length s := by
  rcases h with ⟨hk, hl⟩ | ⟨hk, hl⟩ <;> simp [judgeLineFrame, kindLength, hk, hl]

theorem judgeLineFrame_command (hk : f.kind = 2) (hl : f.payload.length = 1) :
    judgeLineFrame f s = errorS .badField s := by
  simp [judgeLineFrame, kindLength, hk, hl]

theorem judgeLineFrame_unknownSource (hk : f.kind = 1) (hl : f.payload.length = 6) (hp : f.source ≠ 2)
    (hn : f.source ≠ 3) : judgeLineFrame f s = errorS .badField s := by
  simp [judgeLineFrame, kindLength, hk, hl, poleOfSource_none hp hn]

/-- R48, case 4: the source decides which pole's sample it is. -/
theorem judgeLineFrame_sample {pole : Pole} {x : Sample} (hk : f.kind = 1) (hsrc : f.source = poleAddress pole)
    (hx : samplePayload f.payload = some x) : judgeLineFrame f s = acceptSample pole x s := by
  simp [judgeLineFrame, kindLength, hk, samplePayload_length hx, hsrc, poleOfSource_poleAddress, hx]

end Judged

/-! ### The end of a frame (R47, R55) -/

theorem exec_portSFrameReceived_underWay (bytes : List Byte) {s : State} (h : s.pli.underWay = true) :
    exec (.portSFrameReceived bytes) s = .next (skipLineFrame s) :=
  congrArg Host.Outcome.next (if_pos h)

section Followed

variable {bytes : List Byte} {s : State} (h : s.pli.underWay = false)

include h

theorem exec_portSFrameReceived_failed (hb : parseLine bytes = none) : exec (.portSFrameReceived bytes) s =
    .next (errorS .checkFailed { s with pli.lineBusy := false, pli.ackDriven := false }) := by
  simp only [exec, execPortSFrameReceived, receiveLine, h, hb, Bool.false_eq_true, if_false]

theorem exec_portSFrameReceived_other {f : LineFrame} (hb : parseLine bytes = some f) (hd : f.dst ≠ 1) :
    exec (.portSFrameReceived bytes) s = .next { s with pli.lineBusy := false, pli.ackDriven := false } := by
  simp only [exec, execPortSFrameReceived, receiveLine, h, hb, hd, Bool.false_eq_true, if_false]

theorem exec_portSFrameReceived_own {f : LineFrame} (hb : parseLine bytes = some f) (hd : f.dst = 1) :
    exec (.portSFrameReceived bytes) s = .next (judgeLineFrame f (lineHeard s)) := by
  simp only [exec, execPortSFrameReceived, receiveLine, h, hb, hd, Bool.false_eq_true, if_false, if_true, lineHeard]

end Followed

/-- Settles O14: R47 decides whether PLI acts on a frame, and R48 and R49 judge it. -/
theorem poleLineFrameJudged : Obligations.PoleLineFrameJudged := by
  refine ⟨fun bytes s h => exec_portSFrameReceived_underWay bytes h, fun bytes s h => ?_⟩
  intro heard
  refine ⟨fun hb => ?_, fun f hb => ⟨exec_portSFrameReceived_other h hb, fun hd => ?_⟩⟩
  · rw [exec_portSFrameReceived_failed h hb, errorS_eq]
    rfl
  have hown := exec_portSFrameReceived_own h hb hd
  have hrefused {c} (hj : judgeLineFrame f (lineHeard s) = errorS c (lineHeard s)) :
      exec (.portSFrameReceived bytes) s =
        .next { heard with pli.err := tookCode s.pli.err c (errCodeNum c - 1) } := by
    rw [hown, hj, errorS_eq]
    rfl
  refine ⟨fun h1 h2 => hrefused (judgeLineFrame_unknownKind _ h1 h2),
    fun hl => hrefused (judgeLineFrame_wrongLength _ hl), ?_, fun pole x hk hsrc hx => ?_⟩
  · rintro (⟨hk, hl⟩ | ⟨hk, hl, hp, hn⟩)
    · exact hrefused (judgeLineFrame_command _ hk hl)
    · exact hrefused (judgeLineFrame_unknownSource _ hk hl hp hn)
  rw [hown, judgeLineFrame_sample _ hk hsrc hx]
  have hlast : lastSeq (lineHeard s) pole = lastSeq s pole := rfl
  refine ⟨fun hdup => ?_, fun hnew => ⟨_, congrArg _ (if_neg (hlast ▸ hnew)), ?_, fun q hq => ?_, ?_⟩⟩
  · exact congrArg _ (if_pos (hlast ▸ hdup))
  · exact lastSeq_setLastSeq_same pole x.seq _
  · exact lastSeq_setLastSeq_other hq x.seq _
  · exact congrArg (hand [.sampleAccepted pole x]) (setLastSeq_frame pole x.seq _)

end Sys2Proof.Machine
end

section
/-! The command slots (R45, R46, R50 to R53, R55): the order in which PLI sends, and the outcomes of a command. -/

namespace Sys2Proof.Machine

/-! ### What writing a slot leaves -/

/-- A command that ends in a write of one slot changes that slot, not the other one, and nothing else. -/
theorem exec_setSlot {c : Instr} {pole : Pole} {x : Slot} {s u : State} (h : exec c s = .next (setSlot pole x u)) :
    ∃ t, exec c s = .next t ∧ slot t pole = x ∧ (∀ q, q ≠ pole → slot t q = slot u q) ∧
      t = { u with pli.slotP := t.pli.slotP, pli.slotN := t.pli.slotN } :=
  ⟨_, h, slot_setSlot_same u pole x, fun q hq => slot_setSlot_other u pole q x hq, by cases pole <;> rfl⟩

/-! ### The order of sending (R51) -/

section Next

variable {s : State}

theorem nextSlot_none (hp : (slot s .p).state ≠ .waiting) (hn : (slot s .n).state ≠ .waiting) : nextSlot s = none :=
  (if_neg hp).trans (if_neg hn)

/-- R51: P goes first unless N waits and is the older. -/
theorem nextSlot_p (hp : (slot s .p).state = .waiting)
    (h : (slot s .n).state = .waiting → (slotAge s .n).toNat ≤ (slotAge s .p).toNat) : nextSlot s = some .p :=
  (if_pos hp).trans (if_neg fun ⟨hn, hlt⟩ => absurd (h hn) (by omega))

/-- R51: N goes first where P does not wait or is the younger. -/
theorem nextSlot_n (hn : (slot s .n).state = .waiting)
    (h : (slot s .p).state = .waiting → (slotAge s .p).toNat < (slotAge s .n).toNat) : nextSlot s = some .n := by
  by_cases hp : (slot s .p).state = .waiting
  · exact (if_pos hp).trans (if_pos ⟨hn, h hp⟩)
  · exact (if_neg hp).trans (if_pos hn)

theorem exec_commandTxStart (hs : s.pli.sending = none) (hb : s.pli.lineBusy = false) :
    exec .commandTxStart s = .next ((nextSlot s).elim s (startCommand · s)) := by
  simp only [exec, execCommandTxStart, hs, hb, Option.isSome_none, Bool.or_self, Bool.false_eq_true, if_false]
  cases nextSlot s <;> rfl

end Next

theorem startCommand_eq {pole : Pole} {cmd : RetrieverCmd} {s : State} (h : (slot s pole).cmd = some cmd) :
    startCommand pole s = setSlot pole { slot s pole with state := .sending } { s with
      pli.sending := some { pole := pole, cmd := cmd, wire := commandWire pole cmd, orphan := false } } := by
  rw [startCommand, h]
  cases pole <;> rfl

/-- Settles O15: `nextSlot` takes the slot that R51 names, and the start of its frame is a write of that slot. -/
theorem commandStartsInEntryOrder : Obligations.CommandStartsInEntryOrder := by
  intro s hs hb age
  have hexec := exec_commandTxStart hs hb
  refine ⟨fun hp hn => by rw [hexec, nextSlot_none hp hn]; rfl, fun pole cmd hw hcmd hP hN => ?_⟩
  have hnext : nextSlot s = some pole := by
    cases pole with
    | p => exact nextSlot_p hw (hP rfl)
    | n => exact nextSlot_n hw (hN rfl)
  rw [hnext] at hexec
  obtain ⟨t, ht, hsame, hother, hframe⟩ := exec_setSlot (hexec.trans (congrArg _ (startCommand_eq hcmd)))
  have hsending := congrArg (fun t => t.pli.sending) hframe
  exact ⟨t, ht, hsame, hother, hsending, hsending ▸ hframe⟩

/-! ### The outcomes of a command (R45, R46, R52, R53, R55) -/

section Sending

variable {tx : LineTx} {s : State} (h : s.pli.sending = some tx)

include h

theorem exec_arbitrationLost_orphan (ho : tx.orphan = true) :
    exec .arbitrationLost s = .next { s with pli.sending := none, pli.lineBusy := true } := by
  simp only [exec, execArbitrationLost, h, ho, if_true]

theorem exec_commandTxEnd_orphan (ho : tx.orphan = true) (acknowledged : Bool) :
    exec (.commandTxEnd acknowledged) s = .next { s with pli.sending := none } := by
  simp only [exec, execCommandTxEnd, h, ho, if_true]

theorem exec_arbitrationLost_own (ho : tx.orphan = false) : exec .arbitrationLost s =
    .next (setSlot tx.pole (slotAfterLoss (slot s tx.pole)) { s with pli.sending := none, pli.lineBusy := true }) := by
  simp only [exec, execArbitrationLost, h, ho, Bool.false_eq_true, if_false]

theorem exec_commandTxEnd_acknowledged (ho : tx.orphan = false) : exec (.commandTxEnd true) s =
    .next (setSlot tx.pole (slotAfterAck (slot s tx.pole))
      { s with pli.sending := none, handed := s.handed ++ [.alarmClear .poleLineFault] }) := by
  simp only [exec, execCommandTxEnd, h, ho, Bool.false_eq_true, if_false]
  rfl

theorem exec_commandTxEnd_unacknowledged (ho : tx.orphan = false) : exec (.commandTxEnd false) s =
    .next (setSlot tx.pole (slotAfterNoAck (slot s tx.pole))
      { s with pli.sending := none, pli.err := tookCode s.pli.err .noAck 5 }) := by
  simp only [exec, execCommandTxEnd, h, ho, Bool.false_eq_true, if_false]
  rfl

end Sending

/-- R53: the limit empties the slot and asks for the alarm. -/
theorem exec_tCmdExpiry {pole : Pole} {n : Nat} {s : State} (h : (slot s pole).tCmd = some n) :
    exec (.tCmdExpiry pole) s = .next (setSlot pole (slotAfterLimit (slot s pole))
      { s with handed := s.handed ++ [.alarmRaise .poleLineFault false] }) := by
  simp only [exec, execTCmdExpiry, h]
  cases pole <;> rfl

/-- Settles O16: each outcome is a write of the slot that was sending, beside what R45, R52 and R53 ask for. -/
theorem commandOutcomes : Obligations.CommandOutcomes := by
  exact ⟨fun tx s h ho => ⟨exec_setSlot (exec_arbitrationLost_own h ho),
      exec_setSlot (exec_commandTxEnd_acknowledged h ho), exec_setSlot (exec_commandTxEnd_unacknowledged h ho)⟩,
    fun tx s h ho => ⟨exec_arbitrationLost_orphan h ho, exec_commandTxEnd_orphan h ho⟩,
    fun pole n s h => exec_setSlot (exec_tCmdExpiry h)⟩

end Sys2Proof.Machine
end

section
/-! The supply mode: the result of an evaluation test by test (R58 to R63), and what publishing it leaves (R62, R64 to R68). -/

namespace Sys2Proof.Machine

/-! ### The tests of R58 -/

theorem poleDropActed_iff (c : Channel) : poleDropActed c = true ↔
    (c.state = .dropped ∨ c.state = .retrieving) ∧ c.lastDropActed = true := by simp [poleDropActed]

theorem poleUnresolved_iff (c : Channel) : poleUnresolved c = true ↔ c.state = .unknown ∨ c.state = .lost := by
  simp [poleUnresolved]

theorem poleUp_iff (c : Channel) : poleUp c = true ↔
    c.state = .onWire ∨ c.state = .suspect ∨ (c.state = .dropped ∧ c.mask = .reportOnly) := by
  unfold poleUp
  cases c.state <;> simp

theorem dewiredReleased_iff (s : State) : dewiredReleased s = true ↔
    s.pwu.chP.state = .stowed ∧ s.pwu.chN.state = .stowed ∧ openActedDrop s.alm = false := by
  simp [dewiredReleased, and_assoc]

/-- Tests 1 to 3 of R58 give no result: the latch is clear, and no pole is dropped or unresolved. -/
structure Resolved (s : State) : Prop where
  latch   : s.smc.latch = false
  dropped : (poleDropActed s.pwu.chP || poleDropActed s.pwu.chN) = false
  judged  : (poleUnresolved s.pwu.chP || poleUnresolved s.pwu.chN) = false

/-! ### The result of an evaluation (R58 to R60, R63) -/

section Result

variable {s : State}

theorem evalMode_latched (h : s.smc.latch = true) :
    evalMode s = if dewiredReleased s then .battery else .dewired := by simp only [evalMode, h, if_true]

theorem evalMode_dropped (h : s.smc.latch = false) (hd : (poleDropActed s.pwu.chP || poleDropActed s.pwu.chN) = true) :
    evalMode s = .dewired := by simp only [evalMode, h, hd, Bool.false_eq_true, if_true, if_false]

theorem evalMode_unresolved (h : s.smc.latch = false)
    (hd : (poleDropActed s.pwu.chP || poleDropActed s.pwu.chN) = false)
    (hu : (poleUnresolved s.pwu.chP || poleUnresolved s.pwu.chN) = true) : evalMode s = .unresolved := by
  simp only [evalMode, h, hd, hu, Bool.false_eq_true, if_true, if_false]

theorem evalMode_resolved (h : Resolved s) :
    evalMode s = if poleUp s.pwu.chP && poleUp s.pwu.chN then bothUpMode s else .battery := by
  simp only [evalMode, h.latch, h.dropped, h.judged, Bool.false_eq_true, if_false]

theorem bothUpMode_insulator (h : s.sct.view.kind = .insulator) : bothUpMode s = .gap .insulator := by
  simp only [bothUpMode, h]

theorem bothUpMode_dead (h : s.sct.view.kind = .dead) : bothUpMode s = .gap .dead := by simp only [bothUpMode, h]

theorem bothUpMode_line (hi : s.sct.view.kind ≠ .insulator) (hd : s.sct.view.kind ≠ .dead) :
    bothUpMode s = lineMode s := by
  unfold bothUpMode
  split
  · contradiction
  · contradiction
  · rfl

theorem lineMode_restored (h : s.smc.mode ≠ .noLine ∨ vRestore s.mge.params ≤ sampleLine s) : lineMode s = .wire :=
  if_neg fun hn => h.elim (· hn.1) (Nat.not_le_of_gt hn.2)

theorem lineMode_low (h : s.smc.mode = .noLine) (hv : sampleLine s < vRestore s.mge.params) : lineMode s = .noLine :=
  if_pos ⟨h, hv⟩

/-- R63: an evaluation stays in NO_LINE and never enters it. -/
theorem evalMode_noLine (h : evalMode s = .noLine) : s.smc.mode = .noLine := by
  unfold evalMode bothUpMode at h
  (repeat' split at h) <;> try contradiction
  by_contra hne
  exact nomatch h.symm.trans (lineMode_restored (.inl hne))

/-! ### The NO_LINE timer (R61, R63) -/

theorem evalNoLine_low (h : s.smc.mode ≠ .noLine) (hv : sampleLine s < vLost s.mge.params) :
    evalNoLine .wire s = some (s.smc.noLine.getD (tLost s.mge.params)) := by
  simp only [evalNoLine, if_neg h, if_pos hv]
  cases s.smc.noLine <;> rfl

theorem evalNoLine_high (h : s.smc.mode ≠ .noLine) (hv : vLost s.mge.params ≤ sampleLine s) :
    evalNoLine .wire s = none := by
  simp only [evalNoLine, if_neg h, if_neg (Nat.not_lt.mpr hv)]

theorem evalNoLine_off {m : SupplyMode} (hw : m ≠ .wire) (hn : m ≠ .noLine) : evalNoLine m s = none := by
  cases m with
  | wire => exact absurd rfl hw
  | noLine => exact absurd rfl hn
  | _ => rfl

/-- R63: in NO_LINE the timer stays stopped. -/
theorem evalNoLine_of_noLine (m : SupplyMode) (h : s.smc.mode = .noLine) (ht : s.smc.noLine = none) :
    evalNoLine m s = none := by
  cases m <;> simp [evalNoLine, h, ht]

theorem SupplyLegal.noLine_stopped (h : SupplyLegal s) (hm : s.smc.mode ≠ .wire) : s.smc.noLine = none := by
  obtain ⟨-, htimer⟩ := h
  exact Option.not_isSome_iff_eq_none.mp (mt htimer hm)

end Result

/-! ### Publishing (R62, R64 to R68) -/

/-- R64 to R66: the events that publishing a mode hands over. -/
def modeEvents (old new : SupplyMode) : List Instr :=
  if new = old then [] else noLineAlarms old new ++ modeCuts new ++ [.modeAtCbu new]

/-- R68: the upstream interface after a mode has been published. -/
def modeNoticed (old new : SupplyMode) (s : State) : Upi :=
  (if new = old then s else placeNotice [4, modeCode new, subkindCode new, modeCode old, subkindCode old] s).upi

/-- SMC's own state and the events handed over do not enter the notice. -/
theorem modeNoticed_congr (old new : SupplyMode) {s t : State} (hu : t.upi = s.upi) (hm : t.mge = s.mge)
    (hs : t.strap = s.strap) : modeNoticed old new t = modeNoticed old new s := noticeUnless_upi_congr _ _ hu hm hs

theorem publishMode_eq (new : SupplyMode) (s : State) : publishMode new s = { s with
    smc.mode := new
    handed := s.handed ++ modeEvents s.smc.mode new
    upi := modeNoticed s.smc.mode new s } := by
  rcases publishMode_spec new s with ⟨rfl, e⟩ | ⟨hne, e⟩
  · simp [e, modeEvents, modeNoticed]
  · rw [e, placeNotice_frame, modeEvents, modeNoticed, if_neg hne, if_neg hne]
    congr 1
    exact placeNotice_upi_congr _ rfl rfl rfl

/-- R58, R61: the latch and the NO_LINE timer as the result of an evaluation leaves them, before it is published. -/
def latched (s : State) : State :=
  { s with smc.latch := decide (evalMode s = .dewired), smc.noLine := evalNoLine (evalMode s) s }

/-- The state of SMC after an evaluation. -/
def evaluatedSmc (s : State) : Smc :=
  { mode := evalMode s, latch := decide (evalMode s = .dewired), noLine := evalNoLine (evalMode s) s,
    exposed := exposedNow s }

/-- R57, R58, R64, R67: what one evaluation leaves of the whole state. -/
theorem evaluate_eq (s : State) : evaluate s = { s with
    smc := evaluatedSmc s
    handed := s.handed ++ modeEvents s.smc.mode (evalMode s) ++ exposureEvents (exposedNow s) s.smc.exposed
    upi := modeNoticed s.smc.mode (evalMode s) s } := by
  have hnoticed : modeNoticed s.smc.mode (evalMode s) (latched s) = modeNoticed s.smc.mode (evalMode s) s :=
    modeNoticed_congr _ _ rfl rfl rfl
  change judgeExposure (publishMode (evalMode s) (latched s)) = _
  rw [judgeExposure_spec, publishMode_eq, ← hnoticed]
  rfl

theorem exec_evaluation {c : Instr} (h : IsEvaluation c) (s : State) : exec c s = .next (evaluate (taken c s)) := by
  rcases h with ⟨pole, state, changed, rfl⟩ | ⟨v, rfl⟩ | ⟨pole, rfl⟩ <;> rfl

/-- R62: the expiry of the NO_LINE timer publishes NO_LINE. -/
theorem exec_noLineTimerExpiry {n : Nat} {s : State} (h : s.smc.noLine = some n) :
    exec .noLineTimerExpiry s = .next { s with
      smc.mode := .noLine
      smc.noLine := none
      handed := s.handed ++ modeEvents s.smc.mode .noLine
      upi := modeNoticed s.smc.mode .noLine s } := by
  have hnoticed : modeNoticed s.smc.mode .noLine { s with smc.noLine := none } = modeNoticed s.smc.mode .noLine s :=
    modeNoticed_congr _ _ rfl rfl rfl
  simp only [exec, execNoLineTimerExpiry, h, publishMode_eq]
  rw [← hnoticed]

theorem exposedNow_eq (s : State) : exposedNow s = decide (s.sct.view.kind = .wireless ∧
    (s.pwu.chP.state ≠ .stowed ∨ s.pwu.chN.state ≠ .stowed)) := by
  simp only [exposedNow, Bool.decide_and, Bool.decide_or]

/-- The events of a change between two different modes, condition by condition. -/
theorem modeEvents_of_ne {old new : SupplyMode} (h : new ≠ old) : modeEvents old new =
    (if new = .noLine then [.alarmRaise .noLine false] else []) ++
    (if old = .noLine then [.alarmClear .noLine] else []) ++
    (if new = .dewired then [.cutRequest .dewired] else []) ++
    (if new = .unresolved then [.cutRequest .unresolved] else []) ++ [.modeAtCbu new] := by
  have halarms : noLineAlarms old new = (if new = .noLine then [.alarmRaise .noLine false] else []) ++
      (if old = .noLine then [.alarmClear .noLine] else []) := by
    unfold noLineAlarms
    by_cases hn : new = .noLine <;> by_cases ho : old = .noLine <;> simp_all
  have hcuts : modeCuts new = (if new = .dewired then [.cutRequest .dewired] else []) ++
      (if new = .unresolved then [.cutRequest .unresolved] else []) := by
    cases new <;> rfl
  rw [modeEvents, if_neg h, halarms, hcuts]
  simp only [List.append_assoc]

/-! ### The statements -/

/-- Settles O18: `evaluate_eq` with the event taken, and the expiry of the NO_LINE timer. -/
theorem modeChangePublished : Obligations.ModeChangePublished := by
  unfold Obligations.ModeChangePublished
  intro published noticed
  have hpublished : ∀ old new, modeEvents old new = published old new := fun old new => by
    by_cases h : new = old
    · simp only [published, modeEvents, if_pos h]
    · simp only [published, modeEvents_of_ne h, if_neg h]
  have hnoticed : ∀ old new s, modeNoticed old new s = noticed old new s := fun old new s => apply_ite State.upi _ _ _
  refine ⟨fun c s hc => ⟨_, exec_evaluation hc s, ?_⟩, fun n s h => ?_⟩
  · rw [evaluate_eq, ← exposedNow_eq]
    refine ⟨rfl, ?_, ?_, rfl⟩
    · rw [← hpublished]
      rfl
    · rw [← hnoticed]
      exact modeNoticed_congr _ _ rfl rfl rfl
  · rw [exec_noLineTimerExpiry h, hpublished, hnoticed]

/-- Settles O17: the tests of R58 in their order, and then the latch and the NO_LINE timer by the result. -/
theorem evaluationGivesMode : Obligations.EvaluationGivesMode := by
  unfold Obligations.EvaluationGivesMode
  intro c s hc p n dropped unjudged up released resolved line
  have hdrop : (poleDropActed p || poleDropActed n) = true ↔ dropped p ∨ dropped n := by
    rw [Bool.or_eq_true, poleDropActed_iff, poleDropActed_iff]
  have hunjudged : (poleUnresolved p || poleUnresolved n) = true ↔ unjudged p ∨ unjudged n := by
    rw [Bool.or_eq_true, poleUnresolved_iff, poleUnresolved_iff]
  have hup : (poleUp p && poleUp n) = true ↔ up p ∧ up n := by
    rw [Bool.and_eq_true, poleUp_iff, poleUp_iff]
  have hkept : ¬ dropped p → ¬ dropped n → (poleDropActed p || poleDropActed n) = false := fun hp hn =>
    Bool.eq_false_iff.mpr fun h => (hdrop.mp h).elim hp hn
  have hresolved : resolved → Resolved s := fun ⟨hl, hdp, hdn, hup, hun⟩ =>
    ⟨hl, hkept hdp hdn, Bool.eq_false_iff.mpr fun h => (hunjudged.mp h).elim hup hun⟩
  have hboth : resolved → up p → up n → evalMode s = bothUpMode s := fun h hp hn =>
    (evalMode_resolved (hresolved h)).trans (if_pos (hup.mpr ⟨hp, hn⟩))
  have hline : line → evalMode s = lineMode s := fun ⟨h, hp, hn, hi, hd⟩ =>
    (hboth h hp hn).trans (bothUpMode_line hi hd)
  have hwire : line → s.smc.mode ≠ .noLine → evalMode s = .wire := fun h hm =>
    (hline h).trans (lineMode_restored (.inl hm))
  have htimer : line → s.smc.mode ≠ .noLine → evalNoLine (evalMode s) s = evalNoLine .wire s := fun h hm =>
    congrArg (evalNoLine · s) (hwire h hm)
  have hsmc : (evaluate (taken c s)).smc = evaluatedSmc s := by
    rw [evaluate_eq]
    rfl
  refine ⟨_, exec_evaluation hc s, ?_⟩
  rw [hsmc]
  exact ⟨fun hl hr => (evalMode_latched hl).trans (if_pos ((dewiredReleased_iff s).mpr hr)),
    fun hl hr => (evalMode_latched hl).trans (if_neg (mt (dewiredReleased_iff s).mp hr)),
    fun hl hd => evalMode_dropped hl (hdrop.mpr hd),
    fun hl hp hn hu => evalMode_unresolved hl (hkept hp hn) (hunjudged.mpr hu),
    fun h hp hn hk => (hboth h hp hn).trans (bothUpMode_insulator hk),
    fun h hp hn hk => (hboth h hp hn).trans (bothUpMode_dead hk),
    hwire,
    fun h _ hv => (hline h).trans (lineMode_restored (.inr hv)),
    fun h hm hv => (hline h).trans (lineMode_low hm hv),
    fun h hu => (evalMode_resolved (hresolved h)).trans (if_neg (mt hup.mp hu)),
    decide_eq_true_iff,
    fun h hm hv => (htimer h hm).trans (evalNoLine_low hm hv),
    fun h hm hv => (htimer h hm).trans (evalNoLine_high hm hv),
    evalNoLine_off,
    fun hs hm => evalNoLine_of_noLine _ hm (hs.noLine_stopped (by rw [hm]; decide))⟩

end Sys2Proof.Machine
end

section
/-! What the commands of the other blocks leave as it is: the count, the inputs, the queue, and the state of SMC and CBU. -/

namespace Sys2Proof.Machine

/-- The parts of a state that no block but SMC and CBU writes: the millisecond count, the inputs, the queue, and the state of
SMC and of CBU. -/
structure CoreView where
  ms      : Millis
  strap   : BitVec 3
  found   : UnderWay
  pending : List Instr
  smc     : Smc
  cbu     : Cbu

/-- The view that a state gives. -/
def coreView (s : State) : CoreView :=
  { ms := s.ms, strap := s.strap, found := s.found, pending := s.pending, smc := s.smc, cbu := s.cbu }

theorem coreView_smc (s : State) : (coreView s).smc = s.smc := rfl
theorem coreView_cbu (s : State) : (coreView s).cbu = s.cbu := rfl

/-! ### The shared operations -/

@[simp] theorem coreView_hand (e : List Instr) (s : State) : coreView (hand e s) = coreView s := rfl
@[simp] theorem coreView_taken (c : Instr) (s : State) : coreView (taken c s) = coreView s := rfl
@[simp] theorem coreView_errorU (c : ErrCode) (s : State) : coreView (errorU c s) = coreView s := rfl
@[simp] theorem coreView_errorD (c : ErrCode) (s : State) : coreView (errorD c s) = coreView s := rfl
@[simp] theorem coreView_errorS (c : ErrCode) (s : State) : coreView (errorS c s) = coreView s := rfl
@[simp] theorem coreView_changeLanes (f : Lanes → Lanes) (s : State) : coreView (changeLanes f s) = coreView s := rfl
@[simp] theorem coreView_respond (dst : Node) (echo : Byte) (r : Reply) (s : State) :
    coreView (respond dst echo r s) = coreView s := rfl

@[simp] theorem coreView_placeNotice (l : List Byte) (s : State) : coreView (placeNotice l s) = coreView s := by
  rw [placeNotice_frame]
  rfl

/-- What an event on poles changes is PWU's and PLI's. -/
theorem PolesActed.coreView {poles : List Pole} {s t : State} {events : List Instr} (h : PolesActed poles s t events) :
    coreView t = coreView s := (congrArg Machine.coreView h.frame).trans rfl

/-- What an event of AXS's changes is its own, a command slot or a notice. -/
theorem OnlyAux.coreView {s t : State} (h : OnlyAux s t) : coreView t = coreView s :=
  (congrArg Machine.coreView h.1).trans rfl

@[simp] theorem coreView_setSlot (pole : Pole) (x : Slot) (s : State) : coreView (setSlot pole x s) = coreView s := by
  cases pole <;> rfl

/-- A walk whose every step keeps the view keeps it. -/
theorem coreView_foldl {α : Type} {f : State → α → State} (h : ∀ s x, coreView (f s x) = coreView s) (l : List α)
    (s : State) : coreView (l.foldl f s) = coreView s := by
  induction l generalizing s with
  | nil => rfl
  | cons x rest ih => rw [List.foldl_cons, ih, h]

/-! ### Frames received, and the command slots -/

theorem coreView_receiveU (bytes : List Byte) (s : State) : coreView (receiveU bytes s) = coreView s := by
  have hgeneral : ∀ f, coreView (forwardGeneral f s) = coreView s := fun f => by
    unfold forwardGeneral
    split <;> simp [forwardLane0, forwardLane2, apply_ite coreView]
  unfold receiveU
  split <;> simp [classifyU, forwardLane0, forwardLane2, apply_ite coreView, hgeneral]

theorem coreView_receiveD (bytes : List Byte) (s : State) : coreView (receiveD bytes s) = coreView s := by
  have hstatus : ∀ f, coreView (passUpStatus f s) = coreView s := fun f => by
    rcases passUpStatus_spec f s with ⟨_, -, e⟩ | ⟨-, -, e⟩ | ⟨-, -, e⟩ <;> rw [e] <;> rfl
  have hother : ∀ f, coreView (passUpOther f s) = coreView s := fun f => by
    rcases passUpOther_spec f s with ⟨-, e⟩ | ⟨-, e⟩ <;> rw [e] <;> rfl
  unfold receiveD
  split <;> simp [classifyD, apply_ite coreView, hstatus, hother]

theorem coreView_receiveLine (bytes : List Byte) (s : State) : coreView (receiveLine bytes s) = coreView s := by
  unfold receiveLine judgeLineFrame acceptSample setLastSeq
  (repeat' split) <;> rfl

theorem coreView_startCommand (pole : Pole) (s : State) : coreView (startCommand pole s) = coreView s := by
  unfold startCommand
  split
  · rfl
  · exact coreView_setSlot _ _ _

theorem coreView_endCommand (pole : Pole) (acknowledged : Bool) (s : State) :
    coreView (endCommand pole acknowledged s) = coreView s := by
  cases acknowledged <;> simp [endCommand]

theorem coreView_takeSegment (f : Frame) (s : State) : coreView (takeSegment f s) = coreView s := by
  simp only [takeSegment, apply_ite coreView]
  (repeat' split) <;> rfl

/-! ### The section tracker -/

theorem coreView_publishView (v : View) (s : State) : coreView (publishView v s) = coreView s := by
  rw [publishView_eq]
  rfl

theorem coreView_lookupAndPublish (s : State) : coreView (lookupAndPublish s) = coreView s := coreView_publishView _ _

theorem coreView_endDeferral (s : State) : coreView (endDeferral s) = coreView s := by
  unfold endDeferral
  split
  · rfl
  · split
    · rfl
    · exact coreView_placeNotice _ _

theorem coreView_acceptPosition (route : Byte) (c : Half) (s : State) :
    coreView (acceptPosition route c s) = coreView s := by
  unfold acceptPosition
  rw [coreView_lookupAndPublish, coreView_endDeferral]
  split <;> rfl

theorem coreView_losePosition (s : State) : coreView (losePosition s) = coreView s := by
  unfold losePosition
  rw [coreView_hand, coreView_lookupAndPublish, coreView_endDeferral]
  rfl

/-! ### Poles -/

theorem coreView_sampleDone (pole : Pole) (x : Sample) (s : State) : coreView (sampleDone pole x s) = coreView s := by
  obtain ⟨requests, hout⟩ := judgeSample_outcome pole (min x.angle.toNat 900) x.contact x.hook (sampleStored pole x s)
  exact (acted_sampleDone (x := x) hout.acted).coreView

theorem coreView_raisePoles (poles : List Pole) (s : State) : coreView (raisePoles poles s).1 = coreView s := by
  unfold raisePoles
  split
  · exact coreView_foldl (fun s q => (acted_startRaise q s).coreView) _ _
  · rfl

theorem coreView_lowerPoles (poles : List Pole) (s : State) : coreView (lowerPoles poles s).1 = coreView s := by
  unfold lowerPoles
  split
  · rfl
  · exact coreView_foldl (fun s q => (lowerOp_performed q s).1.coreView) _ _

theorem coreView_setMask (pole : Pole) (mask : ActMask) (s : State) :
    coreView (setMask pole mask s).1 = coreView s := by
  unfold setMask
  split
  · rfl
  · split
    · rfl
    · exact (acted_setChannel pole _ s).coreView

/-! ### Traction and alarms -/

theorem coreView_takeRecord (r : BudgetRecord) (s : State) : coreView (takeRecord r s) = coreView s := by
  unfold takeRecord
  simp only [apply_ite coreView]
  (repeat' split) <;> rfl

theorem coreView_holdStale (s : State) : coreView (holdStale s) = coreView s := by
  unfold holdStale
  simp only [apply_ite coreView, coreView_placeNotice]
  split <;> rfl

theorem coreView_judgeStatus (i : Int) (s : State) : coreView (judgeStatus i s) = coreView s := by
  unfold judgeStatus
  dsimp only
  (repeat' split) <;> rfl

theorem coreView_removeAlarm (r : AlarmRec) (s : State) : coreView (removeAlarm r s) = coreView s := by
  rw [removeAlarm, reportDropAck_eq]
  rfl

theorem coreView_raiseAlarm (key : AlarmKey) (acted : Bool) (s : State) :
    coreView (raiseAlarm key acted s) = coreView s := by
  unfold raiseAlarm
  split <;> rfl

theorem coreView_clearAlarm (key : AlarmKey) (s : State) : coreView (clearAlarm key s) = coreView s := by
  unfold clearAlarm
  split
  · rfl
  · split
    · rfl
    · exact coreView_removeAlarm _ _
    · rfl

theorem coreView_ackRecord (r : AlarmRec) (s : State) : coreView (ackRecord r s) = coreView s := by
  unfold ackRecord
  split
  · rw [reportDropAck_eq]
    rfl
  · exact coreView_removeAlarm _ _
  · rfl

/-! ### Port D and Port U -/

theorem coreView_grant (s : State) : coreView (grant s) = coreView s := by
  unfold grant startPortD
  (repeat' split) <;> rfl

theorem coreView_judgeLinkHeld (s : State) : coreView (judgeLinkHeld s) = coreView s := by
  unfold judgeLinkHeld
  split <;> rfl

theorem coreView_endPortD (x : PortDTx) (s : State) : coreView (endPortD x s) = coreView s := by
  unfold endPortD
  simp only [coreView_grant, apply_ite coreView, coreView_judgeLinkHeld]
  (repeat' split) <;> rfl

theorem coreView_startUpstream (s : State) : coreView (startUpstream s) = coreView s := by
  unfold startUpstream sendGroupA sendGroupB
  (repeat' split) <;> rfl

/-! ### Auxiliary loads -/

@[simp] theorem coreView_setLoad (i : LoadIx) (r : LoadRec) (s : State) : coreView (setLoad i r s) = coreView s := rfl
@[simp] theorem coreView_joinWaiting (i : LoadIx) (s : State) : coreView (joinWaiting i s) = coreView s := rfl
@[simp] theorem coreView_leaveWaiting (i : LoadIx) (s : State) : coreView (leaveWaiting i s) = coreView s := rfl
@[simp] theorem coreView_leaveOn (i : LoadIx) (e : AuxEntry) (s : State) : coreView (leaveOn i e s) = coreView s := rfl
@[simp] theorem coreView_commandLoad (i : LoadIx) (on : Bool) (s : State) :
    coreView (commandLoad i on s) = coreView s := rfl

@[simp] theorem coreView_setReservation (r : Nat) (s : State) : coreView (setReservation r s) = coreView s := rfl

@[simp] theorem coreView_enterState (i : LoadIx) (new : LoadState) (cause : AuxCause) (s : State) :
    coreView (enterState i new cause s) = coreView s := (walked_enterState i new cause s).only.coreView

@[simp] theorem coreView_handReservation (before : Nat) (s : State) :
    coreView (handReservation before s) = coreView s := by
  obtain ⟨events, e⟩ := handReservation_frame before s
  rw [e]
  rfl

@[simp] theorem coreView_admissionPass (s : State) : coreView (admissionPass s) = coreView s :=
  coreView_foldl (fun s i => by
    unfold tryAdmit
    split
    · exact (only_admitLoad i s).coreView
    · rfl) _ _

@[simp] theorem coreView_excludeAndShed (s : State) : coreView (excludeAndShed s) = coreView s :=
  (only_excludeAndShed s).coreView

theorem coreView_requestOn (i : LoadIx) (s : State) : coreView (requestOn i s) = coreView s := by
  unfold requestOn
  dsimp only
  split <;> simp

theorem coreView_requestOff (i : LoadIx) (s : State) : coreView (requestOff i s) = coreView s := by
  unfold requestOff
  dsimp only
  split <;> simp

theorem coreView_takeRecordAxs (r : BudgetRecord) (s : State) : coreView (takeRecordAxs r s) = coreView s := by
  unfold takeRecordAxs
  simp only [coreView_handReservation, apply_ite coreView, coreView_admissionPass, coreView_excludeAndShed, ite_self]
  rfl

theorem coreView_takeStatus (i : LoadIx) (status : Byte) (s : State) :
    coreView (takeStatus i status s) = coreView s := by
  have hfault : ∀ b s, coreView (judgeFault i b s) = coreView s := fun b s => by unfold judgeFault; split <;> simp
  simp [takeStatus, resendOff, apply_ite coreView, hfault]

theorem coreView_retireLoad (old : AuxTable) (s : State) (i : LoadIx) :
    coreView (retireLoad old s i) = coreView s := by
  unfold retireLoad
  dsimp only
  (repeat' split) <;> simp

theorem coreView_swapAux (new : AuxTable) (s : State) : coreView (swapAux new s) = coreView s := by
  rw [swapAux_eq, coreView_handReservation, coreView_admissionPass, coreView_excludeAndShed, retired,
    coreView_setReservation, retiredLoads, coreView_foldl (coreView_retireLoad _)]
  rfl

theorem coreView_commandAllOff (s : State) : coreView (commandAllOff s) = coreView s :=
  coreView_foldl (fun s i => by split <;> rfl) _ _

/-! ### Table loading and the settings lock (R169 to R173, R177) -/

theorem coreView_openTableFor (t : TableId) (source : Node) (s : State) :
    coreView (openTableFor t source s).1 = coreView s := by
  unfold openTableFor
  (repeat' split) <;> try rfl
  cases t <;> rfl

theorem coreView_storeWrite {t : TableId} {start count : Nat} {data : List Byte} {s s1 : State}
    (h : storeWrite t start count data s = some s1) : coreView s1 = coreView s := by
  cases t <;> obtain ⟨_, -, rfl⟩ := Option.map_eq_some_iff.mp h <;> rfl

theorem coreView_swapTable (t : TableId) (s : State) : coreView (swapTable t s).1 = coreView s := by
  cases t with
  | sections =>
    simp only [swapTable, swapSection]
    split
    · rfl
    · dsimp only
      split
      · rfl
      · exact coreView_lookupAndPublish _
  | aux =>
    simp only [swapTable]
    exact coreView_swapAux _ s
  | profile => rfl
  | parameter => rfl
  | classMap => rfl

theorem coreView_commitTable (source : Node) (t : TableId) (s : State) :
    coreView (commitTable source t s).1 = coreView s := by
  unfold commitTable
  split
  · split
    · rfl
    · exact coreView_swapTable t _
  · rfl

theorem coreView_abandonTable (cause : AbandonCause) (s : State) : coreView (abandonTable cause s) = coreView s := by
  cases h : s.mge.openTable with
  | none => simp only [abandonTable, h]
  | some o =>
    rw [abandonTable_open cause h, coreView_placeNotice]
    cases o.table <;> rfl

theorem coreView_lockPlaced (s : State) : coreView (lockPlaced s) = coreView (abandonForLock s) := rfl

theorem coreView_setLock (s : State) : coreView (setLock s) = coreView s := by
  obtain ⟨hacted, -⟩ := setLock_acted s
  rw [hacted.coreView, coreView_lockPlaced, abandonForLock]
  split
  · rfl
  · split
    · exact coreView_abandonTable _ s
    · rfl

/-! ### Requests -/

theorem coreView_takeRequest {payload : List Byte} {q : Request} {s t : State}
    (h : takeRequest payload q s = some t) : coreView t = coreView s := by
  obtain ⟨-, -, -, rfl | ⟨_, -, -, -, -, rfl⟩⟩ := takeRequest_spec payload q s t h <;> rfl

/-- A request whose body keeps the view keeps it. -/
theorem coreView_runRequest (code : ReqCode) (q : Request) {body : State → State × Reply} {s : State}
    (hbody : ∀ s1, coreView (body s1).1 = coreView s1) : coreView (runRequest code q body s) = coreView s := by
  rcases runRequest_spec code q body s with ⟨-, e⟩ | ⟨s1, h1, ⟨-, e⟩ | ⟨-, e⟩⟩
  · rw [e]
  · rw [e, coreView_respond, coreView_takeRequest h1]
  · rw [e, coreView_respond, hbody, coreView_takeRequest h1]

theorem coreView_readBody (args : List Byte) (fields : State → List Byte) (s : State) :
    coreView (readBody args fields s).1 = coreView s := by
  unfold readBody
  split <;> rfl

theorem coreView_readErrorsBody (args : List Byte) (s : State) :
    coreView (readErrorsBody args s).1 = coreView s := by
  unfold readErrorsBody
  split <;> rfl

theorem coreView_readTableBody (args : List Byte) (s : State) : coreView (readTableBody args s).1 = coreView s := by
  unfold readTableBody
  (repeat' split) <;> rfl

theorem coreView_ackBody (args : List Byte) (s : State) : coreView (ackBody args s).1 = coreView s := by
  unfold ackBody
  (repeat' split) <;> try rfl
  · exact coreView_foldl (fun s r => coreView_ackRecord r s) _ _
  all_goals exact coreView_ackRecord _ _

theorem coreView_writeBody (source : Node) (args : List Byte) (s : State) :
    coreView (writeBody source args s).1 = coreView s := by
  unfold writeBody
  (repeat' split) <;> try rfl
  rename_i h
  rw [← coreView_storeWrite h]
  rfl

theorem coreView_polesBody (args : List Byte) {act : List Pole → State → State × Status} {s : State}
    (hact : ∀ poles, coreView (act poles s).1 = coreView s) : coreView (polesBody args act s).1 = coreView s := by
  unfold polesBody
  (repeat' split) <;> try rfl
  exact hact _

theorem coreView_maskBody (args : List Byte) (s : State) : coreView (maskBody args s).1 = coreView s := by
  unfold maskBody
  (repeat' split) <;> try rfl
  exact coreView_setMask _ _ s

theorem coreView_tableBody (args : List Byte) {act : TableId → State → State × Reply} {s : State}
    (hact : ∀ t, coreView (act t s).1 = coreView s) : coreView (tableBody args act s).1 = coreView s := by
  unfold tableBody
  (repeat' split) <;> try rfl
  exact hact _

theorem coreView_abandonBody (source : Node) (t : TableId) (s : State) :
    coreView (abandonBody source t s).1 = coreView s := by
  unfold abandonBody
  split
  · exact coreView_abandonTable _ s
  · rfl

theorem coreView_lockBody (args : List Byte) (s : State) : coreView (lockBody args s).1 = coreView s := by
  unfold lockBody
  split
  · dsimp only
    split
    · rfl
    · exact coreView_setLock s
  · rfl

/-! ### Every command -/

/-- The commands of SMC and CBU, and the two resets. -/
def actsOnCore : Instr → Bool
  | .powerOnReset | .upstreamTxEnd | .poleReport _ _ _ | .sectionViewAtSmc _ | .poleDropAckReport _ | .noLineTimerExpiry
  | .voltageSample _ _ | .modeAtCbu _ | .sectionViewAtCbu _ | .reservationAtCbu _ | .cbuParameterCommit => true
  | _ => false

/-- Every other command leaves the count, the inputs, the queue, SMC and CBU as they are. -/
theorem exec_coreView (c : Instr) (s t : State) (hc : actsOnCore c = false) (hx : exec c s = .next t) :
    coreView t = coreView s := by
  cases c <;> simp only [actsOnCore, Bool.true_eq_false] at hc
  case sampleAccepted pole x =>
    obtain rfl := Host.Outcome.next.inj ((exec_sampleAccepted pole x s).symm.trans hx)
    exact coreView_sampleDone pole x s
  all_goals obtain rfl : _ = t := Host.Outcome.next.inj hx
  case portUFrameReceived => split; exacts [rfl, coreView_receiveU _ _]
  case positionFrame =>
    (repeat' split) <;> try rfl
    exact coreView_acceptPosition _ _ _
  case tPosExpiry => split; exacts [rfl, coreView_losePosition _]
  case sctParameterCommit => split; exacts [coreView_publishView _ _, rfl]
  case tractionDemand => split <;> rfl
  case auxRequestOn => split; exacts [rfl, coreView_requestOn _ _, rfl]
  case auxRequestOff => split; exacts [rfl, coreView_requestOff _ _, rfl]
  case mgmtSegment => exact coreView_takeSegment _ _
  case tSegExpiry => split <;> rfl
  case portDFrameReceived => split; exacts [rfl, coreView_receiveD _ _]
  case driveStatus => split; exacts [rfl, coreView_judgeStatus _ _]
  case auxStatus =>
    (repeat' split) <;> try rfl
    exact coreView_takeStatus _ _ _
  case portSFrameReceived => split; exacts [rfl, coreView_receiveLine _ _]
  case commandTxStart =>
    (repeat' split) <;> try rfl
    exact coreView_startCommand _ _
  case arbitrationLost =>
    split
    · rfl
    · dsimp only
      split; exacts [rfl, coreView_setSlot _ _ _]
  case commandTxEnd =>
    split
    · rfl
    · dsimp only
      split; exacts [rfl, coreView_endCommand _ _ _]
  case tCmdExpiry => split <;> simp
  case tSmpExpiry => split; exacts [rfl, (acted_loseSensor _ s).coreView]
  case tRaiseExpiry =>
    split
    · rfl
    · exact (acted_startLowering _ _).coreView.trans (coreView_placeNotice _ s)
  case tRetrExpiry => split; exacts [rfl, (acted_repeatRetrieval _ s).coreView]
  case sectionViewAtPwu => rfl
  case budgetRecordAtTau => exact coreView_takeRecord _ _
  case budgetRecordAtAxs => exact coreView_takeRecordAxs _ _
  case cutRequest => rfl
  case tStaleExpiry => split; exacts [rfl, coreView_holdStale _]
  case tCutExpiry => split <;> rfl
  case minOnExpiry => rfl
  case minOffExpiry => split <;> simp
  case axsParameterCommit => simp [reviewLoads]
  case alarmRaise => exact coreView_raiseAlarm _ _ _
  case alarmClear => exact coreView_clearAlarm _ _
  case portDGrant => exact coreView_grant _
  case portDTxEnd => split; exacts [rfl, coreView_endPortD _ _]
  case holdStart => split <;> rfl
  case holdEnd =>
    split
    · rw [coreView_grant, coreView_judgeLinkHeld]; rfl
    · rfl
  case holdTimerExpiry => split <;> rfl
  case upstreamTxStart => split; exacts [rfl, coreView_startUpstream _]
  case readIdent => exact coreView_runRequest _ _ (coreView_readBody _ _)
  case readState => exact coreView_runRequest _ _ (coreView_readBody _ _)
  case readLoads => exact coreView_runRequest _ _ (coreView_readBody _ _)
  case readAlarms => exact coreView_runRequest _ _ (coreView_readBody _ _)
  case readErrors => exact coreView_runRequest _ _ (coreView_readErrorsBody _)
  case ackAlarm => exact coreView_runRequest _ _ (coreView_ackBody _)
  case poleRaise => exact coreView_runRequest _ _ fun s1 => coreView_polesBody _ (coreView_raisePoles · s1)
  case poleLower => exact coreView_runRequest _ _ fun s1 => coreView_polesBody _ (coreView_lowerPoles · s1)
  case setActMask => exact coreView_runRequest _ _ (coreView_maskBody _)
  case tableOpen q => exact coreView_runRequest _ _ fun s1 => coreView_tableBody _ (coreView_openTableFor · q.source s1)
  case tableWrite => exact coreView_runRequest _ _ (coreView_writeBody _ _)
  case tableRead => exact coreView_runRequest _ _ (coreView_readTableBody _)
  case tableCommit q => exact coreView_runRequest _ _ fun s1 => coreView_tableBody _ (coreView_commitTable q.source · s1)
  case tableAbandon q =>
    exact coreView_runRequest _ _ fun s1 => coreView_tableBody _ (coreView_abandonBody q.source · s1)
  case tOpenExpiry => exact coreView_abandonTable _ s
  case lockSettings => exact coreView_runRequest _ _ (coreView_lockBody _)
  case restart =>
    split
    · rfl
    · rename_i h1
      rw [← coreView_takeRequest h1]
      split <;> rfl
  case unknownRequest =>
    (repeat' split) <;> try rfl
    rename_i h1
    rw [coreView_respond, coreView_takeRequest h1]

end Sys2Proof.Machine
end

section
/-! SMC and CBU stay legal under every step (R56, R61, R77, R79). -/

namespace Sys2Proof.Machine

/-- From the one state to the other SMC and CBU stay legal. -/
def KeepsCore (s t : State) : Prop := (SupplyLegal s → SupplyLegal t) ∧ (BudgetLegal s → BudgetLegal t)

/-! ### The supply mode (R56, R61) -/

/-- R61, R63: the latch follows the result, and a timer that runs after an evaluation runs in WIRE. -/
theorem SupplyLegal.evaluate {s : State} (h : SupplyLegal s) : SupplyLegal (evaluate s) := by
  rw [evaluate_eq]
  refine ⟨decide_eq_true_iff, fun hruns => ?_⟩
  change (evalNoLine (evalMode s) s).isSome = true at hruns
  change evalMode s = .wire
  by_contra hwire
  have hstopped : evalNoLine (evalMode s) s = none := by
    by_cases hline : evalMode s = .noLine
    · have hmode := evalMode_noLine hline
      exact evalNoLine_of_noLine _ hmode (h.noLine_stopped (by rw [hmode]; decide))
    · exact evalNoLine_off hwire hline
  rw [hstopped] at hruns
  exact nomatch hruns

/-- R62: the timer expires in WIRE alone, where the latch is clear. -/
theorem SupplyLegal.expire {s t : State} {n : Nat} (h : SupplyLegal s) (hn : s.smc.noLine = some n)
    (ht : t.smc = { s.smc with mode := .noLine, noLine := none }) : SupplyLegal t := by
  obtain ⟨hlatch, htimer⟩ := h
  have hwire : s.smc.mode = .wire := htimer (by rw [hn]; rfl)
  simp [SupplyLegal, ht, hlatch, hwire]

theorem supplyLegal_of_reset {t : State} (h : t.smc = .reset) : SupplyLegal t := by
  simp [SupplyLegal, h, Smc.reset]

theorem keepsCore_evaluate (s : State) : KeepsCore s (evaluate s) :=
  ⟨SupplyLegal.evaluate, fun h => by rwa [evaluate_eq]⟩

/-! ### The budget record (R77, R79) -/

/-- What `BudgetLegal` asks of a record: M is 0, or makes up A_s with R, and is 0 in the coasting rows. -/
def RecordLegal (r : BudgetRecord) : Prop :=
  (r.motoring = 0 ∨ r.motoring + r.reservation = r.supply) ∧ (isCoasting r.mode = true → r.motoring = 0)

theorem motoringRow_legal (t : ParamTable) {mode : SupplyMode} (supply regen r : Nat) (h : isCoasting mode = false) :
    RecordLegal (motoringRow t mode supply regen r) := by
  refine ⟨?_, fun hc => nomatch h.symm.trans hc⟩
  simp only [motoringRow]
  omega

theorem coastingRow_legal (t : ParamTable) (mode : SupplyMode) (r : Nat) : RecordLegal (coastingRow t mode r) :=
  ⟨.inl rfl, fun _ => rfl⟩

/-- R77: every row is legal. -/
theorem budgetFor_legal (t : ParamTable) (mode : SupplyMode) (cap v r : Nat) : RecordLegal (budgetFor t mode cap v r) := by
  cases mode with
  | wire | noLine | battery => exact motoringRow_legal t _ _ r rfl
  | unresolved | dewired => exact coastingRow_legal t _ r
  | gap kind =>
    cases kind with
    | dead => exact motoringRow_legal t _ _ r rfl
    | insulator => exact coastingRow_legal t _ r

theorem budgetLegal_of_fresh {t : State} {params : ParamTable} (h : t.cbu = .fresh params) : BudgetLegal t := by
  simp [BudgetLegal, h, Cbu.fresh, resetRecord]

/-- R79, R80: whatever CBU has stored, the record recomputed is the one published, and legal. -/
theorem budgetLegal_recompute (s : State) : BudgetLegal (recompute s) := by
  rw [recompute_spec]
  exact ⟨rfl, budgetFor_legal _ _ _ _ _⟩

/-- R72, R79: CBU's events store what they carry in CBU alone. -/
theorem keepsCore_recompute {s stored : State} (h : stored.smc = s.smc) : KeepsCore s (recompute stored) := by
  refine ⟨fun hs => ?_, fun _ => budgetLegal_recompute stored⟩
  rw [recompute_spec]
  simp only [SupplyLegal, h]
  exact hs

theorem setVolts_smc (pole : Pole) (v : BitVec 10) (s : State) : (setVolts pole v s).smc = s.smc := by
  cases pole <;> rfl

/-! ### The other commands, the resets and the passing of time -/

theorem keepsCore_of_view {s t : State} (h : coreView t = coreView s) : KeepsCore s t := by
  have hsmc : t.smc = s.smc := by rw [← coreView_smc, h, coreView_smc]
  have hcbu : t.cbu = s.cbu := by rw [← coreView_cbu, h, coreView_cbu]
  simp only [KeepsCore, SupplyLegal, BudgetLegal, hsmc, hcbu]
  exact ⟨id, id⟩

theorem keepsCore_of_reset {s t : State} {params : ParamTable} (hsmc : t.smc = .reset) (hcbu : t.cbu = .fresh params) :
    KeepsCore s t := ⟨fun _ => supplyLegal_of_reset hsmc, fun _ => budgetLegal_of_fresh hcbu⟩

/-- R70, R88, R178: at RESTART SMC and CBU take their reset values. -/
theorem coreView_restartAll (s : State) :
    coreView (restartAll s) = { coreView s with smc := .reset, cbu := .fresh s.mge.params } := by
  unfold restartAll
  rw [coreView_commandAllOff]
  exact (coreView_placeNotice _ _).trans rfl

theorem keepsCore_restartAll (s t : State) : KeepsCore t (restartAll s) := by
  refine keepsCore_of_reset (params := s.mge.params) ?_ ?_
  · rw [← coreView_smc, coreView_restartAll]
  · rw [← coreView_cbu, coreView_restartAll]

/-- A millisecond stops and starts no timer. -/
theorem keepsCore_tick (s : State) : KeepsCore s (tick s) :=
  ⟨fun ⟨hlatch, htimer⟩ => ⟨hlatch, by simpa only [tick, Timer.tick, Option.isSome_map] using htimer⟩, id⟩

/-! ### Every step -/

/-- Every command keeps SMC and CBU legal. -/
theorem exec_keepsCore (c : Instr) (s t : State) (hx : exec c s = .next t) : KeepsCore s t := by
  cases hc : actsOnCore c with
  | false => exact keepsCore_of_view (exec_coreView c s t hc hx)
  | true =>
    cases c <;> simp only [actsOnCore, Bool.false_eq_true] at hc <;> obtain rfl : _ = t := Host.Outcome.next.inj hx
    case powerOnReset => exact keepsCore_of_reset rfl rfl
    case upstreamTxEnd =>
      split
      · exact keepsCore_of_view rfl
      · dsimp only
        split; exacts [keepsCore_restartAll _ s, keepsCore_of_view rfl]
    case poleReport => exact keepsCore_evaluate (taken _ s)
    case sectionViewAtSmc => exact keepsCore_evaluate (taken _ s)
    case poleDropAckReport => exact keepsCore_evaluate (taken _ s)
    case noLineTimerExpiry =>
      split
      · exact keepsCore_of_view rfl
      · rename_i n hn
        rw [publishMode_eq]
        exact ⟨fun h => h.expire hn rfl, id⟩
    case voltageSample => exact keepsCore_recompute (setVolts_smc _ _ _)
    case modeAtCbu => exact keepsCore_recompute rfl
    case sectionViewAtCbu => exact keepsCore_recompute rfl
    case reservationAtCbu => exact keepsCore_recompute rfl
    case cbuParameterCommit => exact keepsCore_recompute rfl

theorem step_keepsCore (s t : State) (hs : step s = .next t) : KeepsCore s t := by
  rcases step_cases s t hs with ⟨c, rest, -, hx⟩ | ⟨c, -, -, hx⟩ | ⟨-, -, rfl⟩
  · exact exec_keepsCore c { s with pending := rest } t hx
  · exact exec_keepsCore c s t hx
  · exact keepsCore_tick s

/-- Settles O54: an evaluation and a recomputing leave their block legal, and no other command but a reset touches it. -/
theorem supplyAndBudgetStayLegal : Obligations.SupplyAndBudgetStayLegal :=
  ⟨fun s t h hs => (step_keepsCore s t hs).1 h, fun s t h hs => (step_keepsCore s t hs).2 h⟩

end Sys2Proof.Machine
end

section
/-! The Current Budget Unit: the tapers as ramps, the rows of the record, and the recomputing on each event. -/

namespace Sys2Proof.Machine

/-! ### A ramp from 0 to a ceiling (R74, R75) -/

/-- `ceiling · x / span`, rounded down, reaching the ceiling where `x` reaches the span. -/
def ramp (ceiling span x : Nat) : Nat := ceiling * min x span / span

theorem ramp_zero (ceiling span : Nat) : ramp ceiling span 0 = 0 := by simp [ramp]

theorem ramp_mono (ceiling span : Nat) {x y : Nat} (h : x ≤ y) : ramp ceiling span x ≤ ramp ceiling span y :=
  Nat.div_le_div_right (Nat.mul_le_mul_left _ (min_le_min_right _ h))

theorem ramp_of_le (ceiling : Nat) {span x : Nat} (h : x ≤ span) : ramp ceiling span x = ceiling * x / span := by
  rw [ramp, min_eq_left h]

section Span
variable {span : Nat} (hspan : 0 < span)
include hspan

theorem ramp_full (ceiling : Nat) {x : Nat} (h : span ≤ x) : ramp ceiling span x = ceiling := by
  rw [ramp, min_eq_right h, Nat.mul_div_cancel _ hspan]

theorem ramp_le_ceiling (ceiling x : Nat) : ramp ceiling span x ≤ ceiling := by
  calc ramp ceiling span x ≤ ramp ceiling span (max x span) := ramp_mono _ _ (le_max_left _ _)
    _ = ceiling := ramp_full hspan _ (le_max_right _ _)

/-- Rounding down, said without a division. -/
theorem ramp_rounds_down (ceiling : Nat) {x : Nat} (h : x ≤ span) :
    ramp ceiling span x * span ≤ ceiling * x ∧ ceiling * x < (ramp ceiling span x + 1) * span := by
  rw [ramp_of_le _ h]
  exact ⟨Nat.div_mul_le_self _ _, Nat.lt_mul_of_div_lt (Nat.lt_succ_self _) hspan⟩

end Span

/-! ### The tapers (R74, R75) -/

/-- R74: the undervoltage taper rises from V_min to V_knee. -/
theorem undervoltageTaper_eq_ramp {t : ParamTable} (h : vMin t < vKnee t) (v : Nat) :
    undervoltageTaper t v = ramp (iLineMax t) (vKnee t - vMin t) (v - vMin t) := by
  have hspan : 0 < vKnee t - vMin t := Nat.sub_pos_of_lt h
  unfold undervoltageTaper
  split
  case isTrue hlow => rw [Nat.sub_eq_zero_of_le hlow, ramp_zero]
  case isFalse hlow =>
    split
    case isTrue hhigh => rw [ramp_full hspan _ (Nat.sub_le_sub_right hhigh _)]
    case isFalse hhigh => rw [ramp_of_le _ (by omega)]

/-- R75: the regeneration taper falls from V_rk to V_rmax. -/
theorem regenTaper_eq_ramp {t : ParamTable} (h : vRk t < vRmax t) (v : Nat) :
    regenTaper t v = ramp (gMax t) (vRmax t - vRk t) (vRmax t - v) := by
  have hspan : 0 < vRmax t - vRk t := Nat.sub_pos_of_lt h
  unfold regenTaper
  split
  case isTrue hlow => rw [ramp_full hspan _ (Nat.sub_le_sub_left hlow _)]
  case isFalse hlow =>
    split
    case isTrue hhigh => rw [Nat.sub_eq_zero_of_le hhigh, ramp_zero]
    case isFalse hhigh => rw [ramp_of_le _ (by omega)]

/-! ### The rows of the record (R77) -/

theorem isCoasting_iff (mode : SupplyMode) :
    isCoasting mode = true ↔ mode = .gap .insulator ∨ mode = .unresolved ∨ mode = .dewired := by
  cases mode with
  | gap kind => cases kind <;> simp [isCoasting]
  | wire | noLine | battery | unresolved | dewired => simp [isCoasting]

/-- R77: the row of WIRE is a motoring row of the line, every other one draws on the battery, motoring or coasting. -/
theorem budgetFor_cases (t : ParamTable) (mode : SupplyMode) (cap v r : Nat) :
    (mode = .wire ∧
      budgetFor t mode cap v r = motoringRow t mode (lineAllowance t cap v) (regenTaper t v) r) ∨
    (mode ≠ .wire ∧ isCoasting mode = false ∧
      budgetFor t mode cap v r = motoringRow t mode (aBatt t) (gBatt t) r) ∨
    (mode ≠ .wire ∧ isCoasting mode = true ∧ budgetFor t mode cap v r = coastingRow t mode r) := by
  cases mode with
  | wire => exact .inl ⟨rfl, rfl⟩
  | noLine | battery => exact .inr (.inl ⟨nofun, rfl, rfl⟩)
  | unresolved | dewired => exact .inr (.inr ⟨nofun, rfl, rfl⟩)
  | gap kind =>
    cases kind with
    | dead => exact .inr (.inl ⟨nofun, rfl, rfl⟩)
    | insulator => exact .inr (.inr ⟨nofun, rfl, rfl⟩)

/-- R76, R77: what a motoring row leaves for the auxiliary loads and for motoring, and that M is 0 or equals A_s − R. -/
theorem motoringRow_allowances (t : ParamTable) (mode : SupplyMode) (supply regen r : Nat) :
    ((motoringRow t mode supply regen r).auxCap : Int) = max 0 ((supply : Int) - tFloor t) ∧
    ((motoringRow t mode supply regen r).motoring : Int) = max 0 ((supply : Int) - r) ∧
    (0 < (motoringRow t mode supply regen r).motoring → (motoringRow t mode supply regen r).motoring + r = supply) := by
  simp only [motoringRow]
  omega

/-- Settles O20: both tapers are ramps, and the record is a motoring or a coasting row. -/
theorem budgetArithmetic : Obligations.BudgetArithmetic := by
  intro t cap v w r hv hr
  have hvspan : 0 < vKnee t - vMin t := Nat.sub_pos_of_lt hv
  have hrspan : 0 < vRmax t - vRk t := Nat.sub_pos_of_lt hr
  simp only [undervoltageTaper_eq_ramp hv, regenTaper_eq_ramp hr]
  refine ⟨fun h => ?_, fun h => ?_, fun _ h => ?_, fun h => ⟨?_, ?_⟩, ?_, ?_, fun h => ?_, fun h => ?_, fun h _ => ?_,
    fun mode => ⟨_, rfl, ?_⟩⟩
  · rw [Nat.sub_eq_zero_of_le h, ramp_zero]
  · exact ramp_full hvspan _ (Nat.sub_le_sub_right h _)
  · exact ramp_rounds_down hvspan _ (Nat.sub_le_sub_right h.le _)
  · exact ramp_mono _ _ (Nat.sub_le_sub_right h _)
  · exact ramp_mono _ _ (Nat.sub_le_sub_left h _)
  · exact ramp_le_ceiling hvspan _ _
  · exact ramp_le_ceiling hrspan _ _
  · exact ramp_full hrspan _ (Nat.sub_le_sub_left h _)
  · rw [Nat.sub_eq_zero_of_le h, ramp_zero]
  · exact ramp_rounds_down hrspan _ (Nat.sub_le_sub_left h.le _)
  · simp only [← isCoasting_iff, ← undervoltageTaper_eq_ramp hv, ← regenTaper_eq_ramp hr]
    rcases budgetFor_cases t mode cap v r with ⟨rfl, e⟩ | ⟨hw, hc, e⟩ | ⟨hw, hc, e⟩ <;> rw [e]
    · exact ⟨rfl, rfl, fun _ => ⟨rfl, rfl⟩, fun h => absurd rfl h, nofun, fun _ => motoringRow_allowances ..⟩
    · exact ⟨rfl, rfl, fun h => absurd h hw, fun _ => ⟨rfl, rfl⟩, fun h => (nomatch hc.symm.trans h),
        fun _ => motoringRow_allowances ..⟩
    · exact ⟨rfl, rfl, fun h => absurd h hw, fun _ => ⟨rfl, rfl⟩, fun _ => ⟨rfl, rfl⟩, fun h => absurd hc h⟩

/-! ### Recomputing on each event (R72, R79 to R82) -/

/-- CBU has taken an event and stored these inputs; the record still has its old allowances. -/
def inputsStored (c : Instr) (s : State) (voltsP voltsN : BitVec 10) (mode : SupplyMode) (cap reservation : Nat) : State :=
  { s with
    handed := s.handed.erase c
    cbu := { s.cbu with
      voltsP := voltsP
      voltsN := voltsN
      cap := cap
      record := { s.cbu.record with mode := mode, reservation := reservation } } }

/-- R79, R80: recomputing from stored inputs is what the statements call recomputed. -/
theorem recompute_inputsStored (c : Instr) (s : State) (voltsP voltsN : BitVec 10) (mode : SupplyMode)
    (cap reservation : Nat) :
    Recomputed c s (recompute (inputsStored c s voltsP voltsN mode cap reservation)) voltsP voltsN mode cap reservation :=
  recompute_spec _

/-- Settles O19: each event's meaning recomputes from the inputs it has stored. -/
theorem budgetRecomputedOnEachEvent : Obligations.BudgetRecomputedOnEachEvent := by
  intro s
  refine ⟨fun v => ?_, fun v => ?_, fun m => ?_, fun v => ?_, fun r => ?_, ?_⟩ <;>
    exact ⟨_, rfl, recompute_inputsStored _ s ..⟩

end Sys2Proof.Machine
end

section
/-! The Traction Admission Unit: the clip, the step stage and the limit reason, and a demand that is admitted. -/

namespace Sys2Proof.Machine

/-! ### The clip (R84) -/

theorem clipDemand_of_nonneg (r : BudgetRecord) {d : Int} (h : 0 ≤ d) : clipDemand r d = min d r.motoring := if_pos h

theorem clipDemand_of_neg (r : BudgetRecord) {d : Int} (h : d < 0) : clipDemand r d = max d (-(r.regen : Int)) :=
  if_neg (not_le.mpr h)

/-- A clipped value that calls for motoring comes from a motoring demand, within M. -/
theorem clipDemand_pos {r : BudgetRecord} {d : Int} (h : 0 < clipDemand r d) :
    0 < d ∧ clipDemand r d ≤ r.motoring := by
  rcases le_or_gt 0 d with hd | hd
  · rw [clipDemand_of_nonneg r hd] at h ⊢; omega
  · rw [clipDemand_of_neg r hd] at h; omega

/-- A clipped value that calls for regeneration comes from a regenerating demand, within G. -/
theorem clipDemand_neg {r : BudgetRecord} {d : Int} (h : clipDemand r d < 0) :
    d < 0 ∧ -clipDemand r d ≤ r.regen := by
  rcases le_or_gt 0 d with hd | hd
  · rw [clipDemand_of_nonneg r hd] at h; omega
  · rw [clipDemand_of_neg r hd] at h ⊢; omega

/-! ### The step stage (R85) -/

/-- Motoring and regeneration are stepped alike. -/
theorem stepDemand_neg (step : Nat) (p c : Int) : stepDemand step (-p) (-c) = -stepDemand step p c := by
  simp only [stepDemand, withSign]
  split_ifs <;> omega

/-- R85, case 1: towards motoring from regeneration, the step counts from 0. -/
theorem stepDemand_reversed (step : Nat) {p c : Int} (hc : 0 < c) (hp : p < 0) : stepDemand step p c = min c step := by
  rw [stepDemand, if_pos (.inl ⟨hc, hp⟩), withSign, if_pos hc.le]
  omega

/-- R85, case 2: a growing magnitude grows by the step at most. -/
theorem stepDemand_growing (step : Nat) {p c : Int} (hp : 0 ≤ p) (h : p < c) :
    stepDemand step p c = min c (p + step) := by
  rw [stepDemand, if_neg (by omega), if_pos (by omega), withSign, if_pos (by omega)]
  omega

/-- R85, case 3: a magnitude that does not grow is not limited. -/
theorem stepDemand_not_growing (step : Nat) {p c : Int} (hc : 0 ≤ c) (h : c ≤ p) : stepDemand step p c = c := by
  rw [stepDemand, if_neg (by omega), if_neg (by omega)]

theorem stepDemand_reversed_neg (step : Nat) {p c : Int} (hc : c < 0) (hp : 0 < p) :
    stepDemand step p c = max c (-(step : Int)) := by
  have h := stepDemand_reversed step (neg_pos.mpr hc) (neg_neg_iff_pos.mpr hp)
  rw [stepDemand_neg] at h
  omega

theorem stepDemand_growing_neg (step : Nat) {p c : Int} (hp : p ≤ 0) (h : c < p) :
    stepDemand step p c = max c (p - step) := by
  have h := stepDemand_growing step (neg_nonneg.mpr hp) (neg_lt_neg h)
  rw [stepDemand_neg] at h
  omega

theorem stepDemand_not_growing_neg (step : Nat) {p c : Int} (hc : c ≤ 0) (h : p ≤ c) : stepDemand step p c = c := by
  have h := stepDemand_not_growing step (neg_nonneg.mpr hc) (neg_le_neg h)
  rw [stepDemand_neg] at h
  omega

theorem stepDemand_between (step : Nat) (p : Int) {c : Int} (hc : 0 ≤ c) :
    0 ≤ stepDemand step p c ∧ stepDemand step p c ≤ c := by
  rcases le_or_gt c p with hge | hlt
  · rw [stepDemand_not_growing step hc hge]; omega
  · rcases le_or_gt 0 p with hp | hp
    · rw [stepDemand_growing step hp hlt]; omega
    · rcases hc.eq_or_lt with rfl | hpos
      · rw [stepDemand_not_growing_neg step le_rfl hp.le]; omega
      · rw [stepDemand_reversed step hpos hp]; omega

/-- R87: the admitted current lies between 0 and the clipped value. -/
theorem stepDemand_within (step : Nat) (p c : Int) :
    (0 ≤ c ∧ 0 ≤ stepDemand step p c ∧ stepDemand step p c ≤ c) ∨
    (c ≤ 0 ∧ c ≤ stepDemand step p c ∧ stepDemand step p c ≤ 0) := by
  rcases le_total 0 c with hc | hc
  · exact .inl ⟨hc, stepDemand_between step p hc⟩
  · have h := stepDemand_between step (-p) (neg_nonneg.mpr hc)
    rw [stepDemand_neg] at h
    omega

theorem stepDemand_natAbs_le (step : Nat) (p c : Int) : (stepDemand step p c).natAbs ≤ c.natAbs := by
  have h := stepDemand_within step p c
  omega

/-! ### The limit reason (R86) -/

theorem limitReason_step_iff (mode : SupplyMode) (d c a : Int) :
    limitReason mode d c a = .step ↔ a.natAbs < c.natAbs := by
  unfold limitReason
  split_ifs <;> grind

/-! The cases after STEP, where the step stage has given no greater magnitude than the clip. -/

section NotStepped
variable {c a : Int} (h : a.natAbs ≤ c.natAbs) (mode : SupplyMode) (d : Int)
include h

theorem limitReason_mode_iff : limitReason mode d c a = .mode ↔
    a.natAbs = c.natAbs ∧ c ≠ d ∧ 0 < d ∧ isCoasting mode = true := by
  unfold limitReason
  split_ifs <;> grind

theorem limitReason_budget_iff : limitReason mode d c a = .budget ↔
    a.natAbs = c.natAbs ∧ c ≠ d ∧ 0 < d ∧ ¬ isCoasting mode = true := by
  unfold limitReason
  split_ifs <;> grind

theorem limitReason_regen_iff : limitReason mode d c a = .regen ↔ a.natAbs = c.natAbs ∧ c ≠ d ∧ d < 0 := by
  unfold limitReason
  split_ifs <;> grind

end NotStepped

/-- Settles O22: the clip's two branches, the step stage's cases on both sides of 0, and the limit reasons in order. -/
theorem admissionArithmetic : Obligations.AdmissionArithmetic := by
  intro r step p d c a
  have hle : a.natAbs ≤ c.natAbs := stepDemand_natAbs_le step p c
  have hwithin := stepDemand_within step p c
  simp only [← isCoasting_iff]
  refine ⟨clipDemand_of_nonneg r, clipDemand_of_neg r,
    stepDemand_reversed step, stepDemand_reversed_neg step,
    fun _ => stepDemand_growing step, fun _ => stepDemand_growing_neg step,
    stepDemand_not_growing step, stepDemand_not_growing_neg step,
    limitReason_step_iff _ _ _ _, limitReason_mode_iff hle _ _, limitReason_budget_iff hle _ _,
    limitReason_regen_iff hle _ _, fun ha => ?_, fun ha => ?_, hle⟩
  · have hc : 0 < c := by omega
    obtain ⟨hd, hm⟩ := clipDemand_pos hc
    exact ⟨by omega, hd⟩
  · have hc : c < 0 := by omega
    obtain ⟨hd, hg⟩ := clipDemand_neg hc
    exact ⟨by omega, hd⟩

/-! ### Demands (R90, R91) -/

/-- R184: a current is read from a payload of two bytes and from no other. -/
theorem currentPayload_eq_none {payload : List Byte} (h : payload.length ≠ 2) : currentPayload payload = none := by
  unfold currentPayload
  split
  · exact absurd rfl h
  · rfl

/-- R90: a demand of any other length is ignored. -/
theorem execTractionDemand_malformed {f : Frame} (h : f.payload.length ≠ 2) (s : State) :
    execTractionDemand f s = .next (errorU .badField (taken (.tractionDemand f) s)) := by
  simp only [execTractionDemand, currentPayload_eq_none h]

/-- R90: a demand of two bytes is admitted. -/
theorem execTractionDemand_formed {f : Frame} {hi lo : Byte} (h : f.payload = [hi, lo]) (s : State) :
    execTractionDemand f s = .next (admitDemand f (signedCurrent hi lo) (taken (.tractionDemand f) s)) := by
  simp only [execTractionDemand, h, currentPayload]

/-- Settles O21: the judgement of the length, then what admitting a demand writes. -/
theorem demandAdmittedOrIgnored : Obligations.DemandAdmittedOrIgnored := fun _ s =>
  ⟨fun hlen => execTractionDemand_malformed hlen s,
   fun _ _ hbytes => ⟨_, execTractionDemand_formed hbytes s, rfl, rfl, rfl⟩⟩

end Sys2Proof.Machine
end

section
/-! The Traction Admission Unit's other events: a new record, a staleness expiry, a cut request and its confirmation. -/

namespace Sys2Proof.Machine

/-! ### Re-clips (R92, R93) -/

theorem takeRecord_motoring {r : BudgetRecord} {s : State} (h : (r.motoring : Int) < s.tau.admitted) :
    takeRecord r s =
      reclip r.motoring (if isCoasting r.mode then .mode else .budget) { s with tau.record := r } := if_pos h

theorem takeRecord_regen {r : BudgetRecord} {s : State} (hm : s.tau.admitted ≤ r.motoring)
    (hg : s.tau.admitted < -(r.regen : Int)) :
    takeRecord r s = reclip (-(r.regen : Int)) .regen { s with tau.record := r } :=
  (if_neg (not_lt.mpr hm)).trans (if_pos hg)

/-- R92: a demand that the new record allows stays as it is. -/
theorem takeRecord_within {r : BudgetRecord} {s : State} (hm : s.tau.admitted ≤ r.motoring)
    (hg : -(r.regen : Int) ≤ s.tau.admitted) : takeRecord r s = { s with tau.record := r } :=
  (if_neg (not_lt.mpr hm)).trans (if_neg (not_lt.mpr hg))

theorem exec_budgetRecordAtTau (r : BudgetRecord) (s : State) :
    exec (.budgetRecordAtTau r) s = .next (takeRecord r (taken (.budgetRecordAtTau r) s)) := rfl

/-- R86, R93: the reason of a re-clip to M. -/
theorem reasonCode_motoring (mode : SupplyMode) :
    reasonCode (if isCoasting mode then .mode else .budget) = if isCoasting mode then 4 else 2 := by
  rw [apply_ite reasonCode]
  rfl

/-- Settles O23: the three outcomes of R92, and what a re-clip writes. -/
theorem recordReclipsDemand : Obligations.RecordReclipsDemand := by
  intro r s p reclipped
  have hreclip : ∀ (new : Int) (reason : LimitReason), reclipped new (reasonCode reason)
      (reclip new reason { taken (.budgetRecordAtTau r) s with tau.record := r }) := fun _ _ => ⟨rfl, rfl, rfl⟩
  refine ⟨_, exec_budgetRecordAtTau r s, fun hm => ?_, fun hm hg => ?_, fun hm hg => takeRecord_within hm hg⟩
  · rw [takeRecord_motoring (s := taken _ s) hm, ← reasonCode_motoring]
    exact hreclip _ _
  · rw [takeRecord_regen (s := taken _ s) hm hg]
    exact hreclip _ _

/-! ### Staleness (R94) -/

theorem exec_tStaleExpiry {s : State} {n : Nat} (h : s.tau.tStale = some n) :
    exec .tStaleExpiry s = .next (holdStale s) := by
  simp only [exec, execTStaleExpiry, h]

theorem holdStale_zero {s : State} (h : s.tau.admitted = 0) : holdStale s = { s with tau.tStale := none } := if_pos h

/-- R94: the notice says what was admitted before the re-clip. -/
theorem holdStale_nonzero {s : State} (h : s.tau.admitted ≠ 0) : holdStale s =
    placeNotice ([5] ++ signed16 s.tau.admitted ++ signed16 s.tau.requested)
      (reclip 0 .mode { s with tau.tStale := none }) := if_neg h

/-- Settles O24: the notice is placed last, and touches the upstream queue alone. -/
theorem staleDemandHeldToZero : Obligations.StaleDemandHeldToZero := by
  intro n s hn
  refine ⟨fun h => (exec_tStaleExpiry hn).trans (by rw [holdStale_zero h]), fun h => ⟨_, exec_tStaleExpiry hn, ?_⟩⟩
  rw [holdStale_nonzero h, placeNotice_frame]
  exact ⟨rfl, rfl, placeNotice_upi_congr _ rfl rfl rfl, rfl⟩

/-! ### The safety cut and its confirmation (R96 to R100) -/

/-- Settles O25 by what a cut request writes. -/
theorem cutRequestPlacesCut : Obligations.CutRequestPlacesCut := fun _ _ => ⟨_, rfl, rfl, rfl, rfl⟩

/-- R99: a current above I_residual confirms nothing. -/
theorem judgeStatus_high {i : Int} {s : State} (h : iResidual s.mge.params < i.natAbs) : judgeStatus i s = s :=
  if_neg (not_le.mpr h)

/-- R99: a current at or below I_residual closes the window and clears the alarm, where either stands. -/
theorem judgeStatus_low {i : Int} {s : State} (h : i.natAbs ≤ iResidual s.mge.params) : judgeStatus i s = { s with
    tau.window := false
    tau.tCut := if s.tau.window then none else s.tau.tCut
    tau.unconfirmed := false
    handed := s.handed ++ (if s.tau.unconfirmed then [.alarmClear .cutUnconfirmed] else []) } := by
  rw [judgeStatus, if_pos h]
  obtain ⟨ms, strap, found, sct, pwu, pli, smc, cbu, ⟨p, d, r, stale, cut, window, tCut, unconfirmed⟩, axs, alm, dec, upi,
    mge, handed, pending⟩ := s
  cases window <;> cases unconfirmed <;> simp [hand]

/-- R99: a status of another length is ignored. -/
theorem execDriveStatus_malformed {f : Frame} (h : f.payload.length ≠ 2) (s : State) :
    execDriveStatus f s = .next (errorD .badField (taken (.driveStatus f) s)) := by
  simp only [execDriveStatus, currentPayload_eq_none h]

theorem execDriveStatus_formed {f : Frame} {hi lo : Byte} (h : f.payload = [hi, lo]) (s : State) :
    execDriveStatus f s = .next (judgeStatus (signedCurrent hi lo) (taken (.driveStatus f) s)) := by
  simp only [execDriveStatus, h, currentPayload]

theorem exec_tCutExpiry {s : State} {n : Nat} (h : s.tau.tCut = some n) : exec .tCutExpiry s =
    .next (hand [.alarmRaise .cutUnconfirmed false]
      { s with tau.window := false, tau.tCut := none, tau.unconfirmed := true }) := by
  simp only [exec, execTCutExpiry, h]

/-- Settles O26: the judgement of the length, then of the current, and the expiry. -/
theorem cutConfirmation : Obligations.CutConfirmation := by
  refine ⟨fun f s => ⟨execDriveStatus_malformed (s := s), fun hi lo hbytes => ⟨fun h => ?_, fun h => ?_⟩⟩,
    fun n s hn => exec_tCutExpiry hn⟩
  · exact (execDriveStatus_formed hbytes s).trans (congrArg _ (judgeStatus_high h))
  · exact (execDriveStatus_formed hbytes s).trans (congrArg _ (judgeStatus_low h))

end Sys2Proof.Machine
end

section
/-! Port D: which lane a grant takes and which frame of it starts, ends of transmission, and the hold. -/

namespace Sys2Proof.Machine

/-! ### The lane of the next grant (R152) -/

/-- R152: lane 2 holds a frame and has waited through 16 grants. -/
def Overdue (l : Lanes) (count : Nat) : Prop := lane2NonEmpty l = true ∧ 16 ≤ count

theorem nextLane_overdue {l : Lanes} {count : Nat} (h : Overdue l count) : nextLane l count = some (.general, 0) := if_pos h

theorem nextLane_safety {l : Lanes} {count : Nat} (h : ¬ Overdue l count) (h0 : lane0NonEmpty l = true) :
    nextLane l count = some (.safety, if lane2NonEmpty l then count + 1 else 0) := (if_neg h).trans (if_pos h0)

theorem nextLane_traction {l : Lanes} {count : Nat} (h : ¬ Overdue l count) (h0 : lane0NonEmpty l = false)
    (h1 : l.lane1.isSome = true) : nextLane l count = some (.traction, if lane2NonEmpty l then count + 1 else 0) :=
  (if_neg h).trans ((if_neg (Bool.eq_false_iff.mp h0)).trans (if_pos h1))

/-- R152: lane 2 is granted where it is overdue, and where no other lane holds a frame. -/
theorem nextLane_general {l : Lanes} {count : Nat} (h2 : lane2NonEmpty l = true)
    (h : Overdue l count ∨ (lane0NonEmpty l = false ∧ l.lane1 = none)) : nextLane l count = some (.general, 0) := by
  by_cases ho : Overdue l count
  · exact nextLane_overdue ho
  · obtain ⟨h0, h1⟩ := h.resolve_left ho
    exact (if_neg ho).trans (by simp [h0, h1, h2])

theorem lane0NonEmpty_of_cut {l : Lanes} {f : Frame} (h : l.cut = some f) : lane0NonEmpty l = true := by
  simp [lane0NonEmpty, h]

theorem lane0NonEmpty_of_fifo {l : Lanes} {f : Frame} {rest : List Frame} (h : l.fifo0 = f :: rest) :
    lane0NonEmpty l = true := by
  simp [lane0NonEmpty, h]

theorem lane0NonEmpty_eq_false {l : Lanes} (hc : l.cut = none) (hf : l.fifo0 = []) : lane0NonEmpty l = false := by
  simp [lane0NonEmpty, hc, hf]

/-! ### The frame that a lane sends (R153) -/

section TakeFrom

variable {l : Lanes} {f : Frame}

theorem takeFrom_cut (h : l.cut = some f) : takeFrom .safety l = some (f, { l with cut := none }, true) := by
  simp only [takeFrom, h]

theorem takeFrom_fifo0 {rest : List Frame} (hc : l.cut = none) (h : l.fifo0 = f :: rest) :
    takeFrom .safety l = some (f, { l with fifo0 := rest }, false) := by
  simp only [takeFrom, hc, h]

theorem takeFrom_lane1 (h : l.lane1 = some f) : takeFrom .traction l = some (f, { l with lane1 := none }, false) := by
  simp only [takeFrom, h, Option.map_some]

theorem takeFrom_slots {i : LoadIx} {rest : List (LoadIx × Frame)} (h : l.slots = (i, f) :: rest) :
    takeFrom .general l = some (f, { l with slots := rest }, false) := by
  simp only [takeFrom, h]

theorem takeFrom_fifo2 {rest : List Frame} (hs : l.slots = []) (h : l.fifo2 = f :: rest) :
    takeFrom .general l = some (f, { l with fifo2 := rest }, false) := by
  simp only [takeFrom, hs, h]

end TakeFrom

/-! ### A grant (R152, R153, R98) -/

/-- R153, R98: the frame of the granted lane is on the wire, and TAU's cut frame is no longer waiting. -/
def granted (f : Frame) (lane : Lane) (isCut : Bool) (rest : Lanes) (count : Nat) (s : State) : State :=
  { s with
    dec.lanes := rest
    dec.grants := count
    dec.sending := some { wire := frameWire f, lane := lane, cut := isCut, orphan := false }
    tau.cutWaiting := if isCut then none else s.tau.cutWaiting }

theorem startPortD_eq (f : Frame) (lane : Lane) (isCut : Bool) (rest : Lanes) (count : Nat) (s : State) :
    startPortD f lane isCut { s with dec.lanes := rest, dec.grants := count } = granted f lane isCut rest count s := by
  cases isCut <;> rfl

theorem grant_eq_granted {s : State} {f : Frame} {lane : Lane} {isCut : Bool} {rest : Lanes} {count : Nat}
    (hs : s.dec.sending = none) (hh : s.dec.held = false) (hn : nextLane s.dec.lanes s.dec.grants = some (lane, count))
    (ht : takeFrom lane s.dec.lanes = some (f, rest, isCut)) : grant s = granted f lane isCut rest count s := by
  simp only [grant, hn, ht]
  rw [if_neg (by simp [hs, hh]), startPortD_eq]

/-- Settles O38: the lane by R152, its frame by R153. -/
theorem grantByPriority : Obligations.GrantByPriority := by
  intro s l second overdue
  refine ⟨fun h => congrArg _ (grant_none s h), fun hs hh => ?_⟩
  intro starts count
  have hstarts : ∀ {f lane isCut rest n}, nextLane l s.dec.grants = some (lane, n) →
      takeFrom lane l = some (f, rest, isCut) → starts f lane isCut rest n :=
    fun hn ht => congrArg _ (grant_eq_granted hs hh hn ht)
  refine ⟨fun f hc ho => ?cut, fun f rest hc hf ho => ?fifo0, fun f hc hf h1 ho => ?lane1, fun h => ?_⟩
  case cut => exact hstarts (nextLane_safety ho (lane0NonEmpty_of_cut hc)) (takeFrom_cut hc)
  case fifo0 => exact hstarts (nextLane_safety ho (lane0NonEmpty_of_fifo hf)) (takeFrom_fifo0 hc hf)
  case lane1 =>
    exact hstarts (nextLane_traction ho (lane0NonEmpty_eq_false hc hf) (by rw [h1]; rfl)) (takeFrom_lane1 h1)
  have hgeneral : lane2NonEmpty l = true → nextLane l s.dec.grants = some (.general, 0) := fun h2 =>
    nextLane_general h2 (h.imp_right fun ⟨hc, hf, h1⟩ => ⟨lane0NonEmpty_eq_false hc hf, h1⟩)
  refine ⟨fun i f rest hslots => ?slots, fun f rest hslots hf => ?fifo2⟩
  case slots => exact hstarts (hgeneral (by simp [lane2NonEmpty, hslots])) (takeFrom_slots hslots)
  case fifo2 => exact hstarts (hgeneral (by simp [lane2NonEmpty, hf])) (takeFrom_fifo2 hslots hf)

/-! ### Ends of transmission and the hold (R154 to R156) -/

theorem judgeLinkHeld_eq (s : State) : judgeLinkHeld s =
    if s.dec.linkHeld = true ∧ s.dec.held = false ∧ lane0NonEmpty s.dec.lanes = false then
      { s with dec.linkHeld := false, handed := s.handed ++ [.alarmClear .driveLinkHeld] }
    else s := by
  simp [judgeLinkHeld, and_assoc, hand]

/-- R154, R98: the port is free, and after TAU's cut frame the window is open. -/
def portFreed (x : PortDTx) (s : State) : State :=
  if x.cut = true ∧ x.orphan = false then
    { s with dec.sending := none, tau.window := true, tau.tCut := some (tCut s.mge.params) }
  else { s with dec.sending := none }

theorem endPortD_eq (x : PortDTx) (s : State) : endPortD x s =
    grant (if x.lane = .safety ∧ x.orphan = false then judgeLinkHeld (portFreed x s) else portFreed x s) := by
  simp [endPortD, cutEnded, portFreed]

theorem exec_portDTxEnd {s : State} {x : PortDTx} (h : s.dec.sending = some x) :
    exec .portDTxEnd s = .next (endPortD x s) := by
  simp only [exec, execPortDTxEnd, h]

theorem exec_holdStart {s : State} (h : s.dec.held = false) : exec .holdStart s = .next { s with
    dec.held := true
    dec.heldExpired := false
    dec.tHeld := if lanesNonEmpty s.dec.lanes then some (tHeld s.mge.params) else none } := by
  simp only [exec, execHoldStart, h, Bool.false_eq_true, if_false]

theorem exec_holdEnd {s : State} (h : s.dec.held = true) : exec .holdEnd s =
    .next (grant (judgeLinkHeld { s with dec.held := false, dec.heldExpired := false, dec.tHeld := none })) := by
  simp only [exec, execHoldEnd, h, if_true]

theorem exec_holdTimerExpiry {s : State} {n : Nat} (h : s.dec.tHeld = some n) : exec .holdTimerExpiry s =
    .next (hand [.alarmRaise .driveLinkHeld false]
      { s with dec.tHeld := none, dec.heldExpired := true, dec.linkHeld := true }) := by
  simp only [exec, execHoldTimerExpiry, h]

/-- R156: on legal lanes, a hold timer that runs keeps the time left, and one that starts has its setting. -/
theorem holdTimer_eq {d : Dec} (setting : Nat) (after : Lanes)
    (h : d.tHeld.isSome = true ↔ d.held = true ∧ lanesNonEmpty d.lanes = true ∧ d.heldExpired = false) :
    holdTimer d setting after =
      if d.held = true ∧ lanesNonEmpty after = true ∧ d.heldExpired = false then some (d.tHeld.getD setting)
      else none := by
  cases ht : d.tHeld with
  | none => cases hb : lanesNonEmpty d.lanes <;> cases he : d.heldExpired <;> simp_all [holdTimer]
  | some n =>
    obtain ⟨hh, hb, he⟩ := h.mp (by rw [ht]; rfl)
    simp [holdTimer, hh, hb, he, ht]

/-- Settles O39: an end of transmission and an end of a hold are a judgement and a grant. -/
theorem holdsAndEnds : Obligations.HoldsAndEnds := by
  unfold Obligations.HoldsAndEnds
  intro cleared
  have hcleared : judgeLinkHeld = cleared := funext judgeLinkHeld_eq
  rw [← hcleared]
  refine ⟨fun x s h => ?txEnd, fun s h => exec_holdStart h, fun s h => ?holdEnd, fun n s h => exec_holdTimerExpiry h,
    fun g s h => ?lanes⟩
  case txEnd => exact ⟨_, exec_portDTxEnd h, congrArg Host.Outcome.next (endPortD_eq x s).symm⟩
  case holdEnd => exact ⟨_, exec_holdEnd h, rfl⟩
  case lanes =>
    obtain ⟨-, -, -, -, -, htimer⟩ := h
    exact holdTimer_eq _ _ htimer

end Sys2Proof.Machine
end

section
/-! What of the state each operation can write: the state cut into pieces, and for an operation the pieces that it may
change. Every other piece is as it was, whichever invariant reads it. -/

namespace Sys2Proof.Machine

/-! ### The pieces of a state -/

/-- The pieces of a state, the events handed over apart: the millisecond count, the inputs with the queue of commands, each
block's own state, with TAU's cut slot, the rest of the lanes with the hold timer, what DEC sends and what it receives as
pieces of their own, MGE's requests and its settings, and the five shadow copies together. -/
inductive Piece where
  | clock | inputs | sections | poles | line | supply | budget | traction | loads | alarms
  | cut | lanes | port | intake | upstream | requests | settings | shadows

/-- The state `s` with one piece taken from `t`. -/
def Piece.copy (p : Piece) (t s : State) : State :=
  match p with
  | .clock => { s with ms := t.ms }
  | .inputs => { s with strap := t.strap, found := t.found, pending := t.pending }
  | .sections => { s with sct := { t.sct with shadow := s.sct.shadow } }
  | .poles => { s with pwu := { t.pwu with shadow := s.pwu.shadow } }
  | .line => { s with pli := t.pli }
  | .supply => { s with smc := t.smc }
  | .budget => { s with cbu := t.cbu }
  | .traction => { s with tau := t.tau }
  | .loads => { s with axs := { t.axs with shadow := s.axs.shadow } }
  | .alarms => { s with alm := t.alm }
  | .cut => { s with dec.lanes.cut := t.dec.lanes.cut }
  | .lanes => { s with dec.lanes := { t.dec.lanes with cut := s.dec.lanes.cut }, dec.tHeld := t.dec.tHeld }
  | .port => { s with
      dec.grants := t.dec.grants, dec.held := t.dec.held, dec.heldExpired := t.dec.heldExpired
      dec.linkHeld := t.dec.linkHeld, dec.sending := t.dec.sending }
  | .intake => { s with dec.classMap := t.dec.classMap, dec.err := t.dec.err, dec.underWay := t.dec.underWay }
  | .upstream => { s with upi := t.upi }
  | .requests => { s with
      mge.queue := t.mge.queue, mge.orderCount := t.mge.orderCount, mge.toPlace := t.mge.toPlace
      mge.awaitRestart := t.mge.awaitRestart }
  | .settings => { s with mge.openTable := t.mge.openTable, mge.lock := t.mge.lock, mge.params := t.mge.params }
  | .shadows => { s with
      sct.shadow := t.sct.shadow, pwu.shadow := t.pwu.shadow, axs.shadow := t.axs.shadow
      dec.shadow := t.dec.shadow, mge.shadow := t.mge.shadow }

theorem Piece.copy_self (p : Piece) (e : List Instr) (s : State) : p.copy { s with handed := e } s = s := by
  cases p <;> rfl

theorem Piece.copy_copy (p : Piece) (u t s : State) : p.copy (p.copy u t) s = p.copy u s := by cases p <;> rfl

/-- A piece is found as it was behind another that has been copied. -/
theorem Piece.copy_behind {p q : Piece} (h : p ≠ q) (t u s : State) : p.copy (q.copy t u) s = p.copy u s := by
  cases p <;> cases q <;> (try exact absurd rfl h) <;> rfl

/-- From `s` to `t` no piece but those listed has changed, whatever events have been handed over. -/
def Writes (l : List Piece) (s t : State) : Prop := ∀ p, p ∉ l → p.copy t s = s

/-- The state `s` with the listed pieces and the events handed over taken from `t`. -/
def overlay (l : List Piece) (t s : State) : State := l.foldr (fun p u => p.copy t u) { s with handed := t.handed }

/-- What an equation that names the written fields says. -/
theorem Writes.of_frame {l : List Piece} {s t : State} (h : t = overlay l t s) : Writes l s t := by
  have hbehind : ∀ (l : List Piece) (p : Piece), p ∉ l → p.copy (overlay l t s) s = s := by
    intro l
    induction l with
    | nil => exact fun p _ => p.copy_self _ s
    | cons q rest ih =>
      intro p hp
      obtain ⟨hq, hrest⟩ := not_or.mp (mt List.mem_cons.mpr hp)
      exact (Piece.copy_behind hq t _ s).trans (ih p hrest)
  intro p hp
  rw [h]
  exact hbehind l p hp

theorem Writes.mono {l m : List Piece} {s t : State} (h : Writes l s t) (hl : ∀ p ∈ l, p ∈ m := by simp) :
    Writes m s t := fun p hp => h p fun hm => hp (hl p hm)

theorem Writes.refl (l : List Piece) (s : State) : Writes l s s := fun p _ => p.copy_self s.handed s

theorem Writes.trans {l m n : List Piece} {s t u : State} (h : Writes l s t) (k : Writes m t u)
    (hl : ∀ p ∈ l, p ∈ n := by simp) (hm : ∀ p ∈ m, p ∈ n := by simp) : Writes n s u := fun p hp => by
  calc p.copy u s = p.copy (p.copy u t) s := (p.copy_copy u t s).symm
    _ = p.copy t s := by rw [k p fun hk => hp (hm p hk)]
    _ = s := h p fun hk => hp (hl p hk)

theorem Writes.comp {l : List Piece} {s t u : State} (h : Writes l s t) (k : Writes l t u) : Writes l s u :=
  h.trans k (fun _ => id) (fun _ => id)

theorem Writes.ite {l : List Piece} {c : Prop} [Decidable c] {s t u : State} (h : Writes l s t) (k : Writes l s u) :
    Writes l s (if c then t else u) := by
  split
  · exact h
  · exact k

theorem Writes.foldl {α : Type} {l : List Piece} {f : State → α → State} (h : ∀ s x, Writes l s (f s x)) (xs : List α)
    (s : State) : Writes l s (xs.foldl f s) := by
  induction xs generalizing s with
  | nil => exact .refl l s
  | cons x rest ih => exact (h s x).comp (ih (f s x))

section Kept

variable {l : List Piece} {s t : State} (h : Writes l s t)

include h

theorem Writes.tau (ht : .traction ∉ l := by simp) : t.tau = s.tau :=
  Eq.trans (b := (Piece.traction.copy t s).tau) rfl (congrArg State.tau (h _ ht))

theorem Writes.cutSlot (hc : .cut ∉ l := by simp) : t.dec.lanes.cut = s.dec.lanes.cut :=
  Eq.trans (b := (Piece.cut.copy t s).dec.lanes.cut) rfl (congrArg (fun u : State => u.dec.lanes.cut) (h _ hc))

end Kept

end Sys2Proof.Machine
end

section
/-! What each operation of the model writes, block by block. -/

namespace Sys2Proof.Machine

/-! ### The shared operations -/

theorem writes_hand (e : List Instr) (s : State) : Writes [] s (hand e s) := .of_frame rfl
theorem writes_taken (c : Instr) (s : State) : Writes [] s (taken c s) := .of_frame rfl
/-- An event taken is no piece's. -/
theorem Writes.afterTaken {c : Instr} {l : List Piece} {s t : State} (h : Writes l (taken c s) t) : Writes l s t :=
  (writes_taken c s).trans h (fun _ hp => nomatch hp) (fun _ => id)

theorem writes_errorU (c : ErrCode) (s : State) : Writes [.upstream] s (errorU c s) := .of_frame rfl
theorem writes_errorD (c : ErrCode) (s : State) : Writes [.intake] s (errorD c s) := .of_frame rfl
theorem writes_errorS (c : ErrCode) (s : State) : Writes [.line] s (errorS c s) := .of_frame rfl

theorem writes_placeNotice (payload : List Byte) (s : State) : Writes [.upstream] s (placeNotice payload s) := by
  rw [placeNotice_frame]
  exact .of_frame rfl

theorem writes_setSlot (pole : Pole) (x : Slot) (s : State) : Writes [.line] s (setSlot pole x s) := by
  cases pole <;> exact .of_frame rfl

theorem writes_placeCommand (i : LoadIx) (f : Frame) (s : State) : Writes [.lanes] s (placeCommand i f s) := .of_frame rfl

theorem writes_forwardLane0 (f : Frame) (s : State) : Writes [.lanes, .upstream] s (forwardLane0 f s) := by
  rcases forwardLane0_spec f s with ⟨-, e⟩ | ⟨-, e⟩ <;> rw [e] <;> exact .of_frame rfl

theorem writes_forwardLane2 (f : Frame) (s : State) : Writes [.lanes, .upstream] s (forwardLane2 f s) := by
  rcases forwardLane2_spec f s with ⟨-, e⟩ | ⟨-, e⟩ <;> rw [e] <;> exact .of_frame rfl

theorem writes_passUpStatus (f : Frame) (s : State) : Writes [.upstream, .intake] s (passUpStatus f s) := by
  rcases passUpStatus_spec f s with ⟨_, -, e⟩ | ⟨-, -, e⟩ | ⟨-, -, e⟩ <;> rw [e] <;> exact .of_frame rfl

theorem writes_passUpOther (f : Frame) (s : State) : Writes [.upstream, .intake] s (passUpOther f s) := by
  rcases passUpOther_spec f s with ⟨-, e⟩ | ⟨-, e⟩ <;> rw [e] <;> exact .of_frame rfl

/-! ### Frames received (R47 to R49, R147 to R149) -/

theorem writes_receiveU (bytes : List Byte) (s : State) : Writes [.lanes, .upstream] s (receiveU bytes s) := by
  have hrefused : ∀ c, Writes [.lanes, .upstream] s (errorU c s) := fun c => (writes_errorU c s).mono
  have hhand : ∀ e, Writes [.lanes, .upstream] s (hand e s) := fun e => (writes_hand e s).mono
  have hgeneral : ∀ f, Writes [.lanes, .upstream] s (forwardGeneral f s) := fun f => by
    unfold forwardGeneral
    split
    · exact .ite (writes_forwardLane0 f s) (.ite (writes_forwardLane2 f s) (.refl _ s))
    · exact .refl _ s
  unfold receiveU
  split
  · exact hrefused _
  · exact .ite (.ite (hrefused _) (writes_forwardLane0 _ s)) <| .ite (.ite (hhand _) (hrefused _)) <|
      .ite (.ite (hhand _) (hrefused _)) <| .ite (.ite (hhand _) (hrefused _)) <|
      .ite (.ite (hhand _) (.ite (hrefused _) (writes_forwardLane2 _ s))) <|
      .ite (.ite (hrefused _) (hgeneral _)) (hrefused _)

theorem writes_receiveD (bytes : List Byte) (s : State) : Writes [.upstream, .intake] s (receiveD bytes s) := by
  have hstatus : ∀ f e, Writes [.upstream, .intake] s (hand e (passUpStatus f s)) := fun f e =>
    (writes_passUpStatus f s).trans (writes_hand e _)
  have hrefused : ∀ c, Writes [.upstream, .intake] s (errorD c s) := fun c => (writes_errorD c s).mono
  unfold receiveD
  split
  · exact hrefused _
  · exact .ite (.ite (hstatus _ _) (writes_passUpStatus _ s)) <| .ite (hstatus _ _) <|
      .ite (writes_passUpOther _ s) (hrefused _)

theorem writes_receiveLine (bytes : List Byte) (s : State) : Writes [.line] s (receiveLine bytes s) := by
  unfold receiveLine judgeLineFrame acceptSample setLastSeq
  (repeat' split) <;> exact .of_frame rfl

theorem writes_startCommand (pole : Pole) (s : State) : Writes [.line] s (startCommand pole s) := by
  unfold startCommand
  split
  · exact .refl _ s
  · exact (writes_setSlot _ _ s).trans (.of_frame rfl : Writes [.line] _ _)

theorem writes_endCommand (pole : Pole) (acknowledged : Bool) (s : State) :
    Writes [.line] s (endCommand pole acknowledged s) :=
  .ite ((writes_hand _ s).trans (writes_setSlot _ _ _)) ((writes_errorS _ s).trans (writes_setSlot _ _ _))

/-! ### Sections, supply and budget -/

theorem writes_publishView (v : View) (s : State) : Writes [.sections, .upstream] s (publishView v s) := by
  rw [publishView_eq]
  exact .of_frame rfl

theorem writes_lookupAndPublish (s : State) : Writes [.sections, .upstream] s (lookupAndPublish s) := by
  rw [lookupAndPublish_eq]
  exact .of_frame rfl

theorem writes_endDeferral (s : State) : Writes [.sections, .upstream] s (endDeferral s) := by
  unfold endDeferral
  split
  · exact .refl _ s
  · exact .ite (.refl _ s) ((.of_frame rfl : Writes [.sections] s _).trans (writes_placeNotice _ _))

theorem writes_acceptPosition (route : Byte) (c : Half) (s : State) :
    Writes [.sections, .upstream] s (acceptPosition route c s) := by
  have hstored : Writes [.sections] s (positionStored route c s) := .of_frame rfl
  rw [acceptPosition_eq]
  exact (hstored.trans (writes_endDeferral _) : Writes [.sections, .upstream] s _).trans (writes_lookupAndPublish _)

theorem writes_losePosition (s : State) : Writes [.sections, .upstream] s (losePosition s) := by
  have hgone : Writes [.sections] s (positionGone s) := .of_frame rfl
  exact ((hgone.trans (writes_endDeferral _) : Writes [.sections, .upstream] s _).trans
    (writes_lookupAndPublish _) : Writes [.sections, .upstream] s _).trans (writes_hand _ _)

theorem writes_publishMode (m : SupplyMode) (s : State) : Writes [.supply, .upstream] s (publishMode m s) := by
  rw [publishMode_eq]
  exact .of_frame rfl

theorem writes_evaluate (s : State) : Writes [.supply, .upstream] s (evaluate s) := by
  rw [evaluate_eq]
  exact .of_frame rfl

theorem writes_recompute (s : State) : Writes [.budget] s (recompute s) := by
  rw [recompute_spec]
  exact .of_frame rfl

/-! ### Poles -/

theorem PolesActed.writes {poles : List Pole} {s t : State} {events : List Instr} (h : PolesActed poles s t events) :
    Writes [.poles, .line] s t := by
  have hshadow : t.pwu.shadow = s.pwu.shadow := (congrArg Pwu.shadow h.pwu).trans rfl
  refine .of_frame (h.frame.trans ?_)
  simp only [overlay, List.foldr, Piece.copy, ← hshadow]

theorem writes_sampleDone (pole : Pole) (x : Sample) (s : State) : Writes [.poles, .line] s (sampleDone pole x s) := by
  obtain ⟨requests, hout⟩ := judgeSample_outcome pole (min x.angle.toNat 900) x.contact x.hook (sampleStored pole x s)
  exact .afterTaken (acted_sampleDone (x := x) hout.acted).writes

theorem writes_raisePoles (poles : List Pole) (s : State) : Writes [.poles, .line] s (raisePoles poles s).1 := by
  unfold raisePoles
  split
  · exact .foldl (fun s q => (acted_startRaise q s).writes) _ s
  · exact .refl _ s

theorem writes_lowerPoles (poles : List Pole) (s : State) : Writes [.poles, .line] s (lowerPoles poles s).1 := by
  unfold lowerPoles
  split
  · exact .refl _ s
  · exact .foldl (fun s q => (lowerOp_performed q s).1.writes) _ s

theorem writes_setMask (pole : Pole) (mask : ActMask) (s : State) : Writes [.poles, .line] s (setMask pole mask s).1 := by
  unfold setMask
  (repeat' split) <;> try exact .refl _ s
  exact (acted_setChannel pole _ s).writes

/-! ### Traction, alarms and the ports -/

theorem writes_reclip (p : Int) (reason : LimitReason) (s : State) : Writes [.traction, .lanes] s (reclip p reason s) :=
  .of_frame rfl

theorem writes_takeRecord (r : BudgetRecord) (s : State) : Writes [.traction, .lanes] s (takeRecord r s) := by
  have hrecord : Writes [.traction, .lanes] s { s with tau.record := r } := .of_frame rfl
  exact .ite (hrecord.trans (writes_reclip _ _ _)) (.ite (hrecord.trans (writes_reclip _ _ _)) hrecord)

theorem writes_holdStale (s : State) : Writes [.traction, .lanes, .upstream] s (holdStale s) := by
  have hstopped : Writes [.traction] s { s with tau.tStale := none } := .of_frame rfl
  refine .ite hstopped.mono ?_
  exact (hstopped.trans (writes_reclip _ _ _) : Writes [.traction, .lanes] s _).trans (writes_placeNotice _ _)

theorem writes_judgeStatus (i : Int) (s : State) : Writes [.traction] s (judgeStatus i s) := by
  by_cases h : i.natAbs ≤ iResidual s.mge.params
  · rw [judgeStatus_low h]
    exact .of_frame rfl
  · rw [judgeStatus_high (not_le.mp h)]
    exact .refl _ s

theorem writes_raiseAlarm (key : AlarmKey) (acted : Bool) (s : State) :
    Writes [.alarms, .upstream] s (raiseAlarm key acted s) := by
  unfold raiseAlarm
  split <;> exact .of_frame rfl

theorem writes_removeAlarm (r : AlarmRec) (s : State) : Writes [.alarms, .upstream] s (removeAlarm r s) := by
  rw [removeAlarm, reportDropAck_eq]
  exact .of_frame rfl

theorem writes_clearAlarm (key : AlarmKey) (s : State) : Writes [.alarms, .upstream] s (clearAlarm key s) := by
  unfold clearAlarm
  split
  · exact .refl _ s
  · split
    · exact .of_frame rfl
    · exact writes_removeAlarm _ s
    · exact .refl _ s

theorem writes_ackRecord (r : AlarmRec) (s : State) : Writes [.alarms, .upstream] s (ackRecord r s) := by
  unfold ackRecord
  split
  · rw [reportDropAck_eq]
    exact .of_frame rfl
  · exact writes_removeAlarm _ s
  · exact .refl _ s

/-- R152, R153: no grant is made, or a frame that a lane sends next starts. -/
theorem grant_cases (s : State) : grant s = s ∨ ∃ lane count f rest isCut,
    takeFrom lane s.dec.lanes = some (f, rest, isCut) ∧ grant s = granted f lane isCut rest count s := by
  by_cases h : s.dec.sending ≠ none ∨ s.dec.held = true ∨ lanesNonEmpty s.dec.lanes = false
  · exact .inl (grant_none s h)
  · simp only [not_or, ne_eq, not_not, Bool.not_eq_true, Bool.not_eq_false] at h
    obtain ⟨hs, hh, hl⟩ := h
    obtain ⟨lane, count, f, rest, isCut, -, ht, e⟩ := grant_some s hs hh hl
    exact .inr ⟨lane, count, f, rest, isCut, ht, e.trans (startPortD_eq ..)⟩

theorem writes_grant (s : State) : Writes [.traction, .cut, .lanes, .port] s (grant s) := by
  rcases grant_cases s with e | ⟨lane, count, f, rest, isCut, -, e⟩ <;> rw [e]
  · exact .refl _ s
  · exact .of_frame (by simp only [granted, overlay, List.foldr, Piece.copy])

theorem writes_judgeLinkHeld (s : State) : Writes [.port] s (judgeLinkHeld s) := .ite (.of_frame rfl) (.refl _ s)

theorem writes_endPortD (x : PortDTx) (s : State) : Writes [.traction, .cut, .lanes, .port] s (endPortD x s) := by
  have hfreed : Writes [.traction, .port] s (portFreed x s) := by
    unfold portFreed
    split <;> exact .of_frame rfl
  have hjudged : Writes [.traction, .port] s (judgeLinkHeld (portFreed x s)) := hfreed.trans (writes_judgeLinkHeld _)
  rw [endPortD_eq]
  exact (Writes.ite hjudged hfreed).trans (writes_grant _)

theorem writes_startUpstream (s : State) : Writes [.upstream, .requests] s (startUpstream s) := by
  unfold startUpstream sendGroupA sendGroupB
  (repeat' split) <;> exact .of_frame rfl

/-! ### Auxiliary loads -/

/-- The pieces of AXS: the loads, with their commands in lane 2 and their notices. -/
abbrev auxPieces : List Piece := [.loads, .lanes, .upstream]

theorem OnlyAux.writes {s t : State} (h : OnlyAux s t) : Writes auxPieces s t := by
  obtain ⟨hstate, haxs⟩ := h
  have hshadow : t.axs.shadow = s.axs.shadow := (congrArg Axs.shadow haxs).trans rfl
  have hlanes : { t.dec.lanes with cut := s.dec.lanes.cut } = { s.dec.lanes with slots := t.dec.lanes.slots } := by
    rw [hstate]
  refine .of_frame (hstate.trans ?_)
  simp only [overlay, List.foldr, Piece.copy, ← hshadow, hlanes]

theorem writes_setLoad (i : LoadIx) (r : LoadRec) (s : State) : Writes auxPieces s (setLoad i r s) :=
  (walked_setLoad i r s).only.writes

theorem writes_joinWaiting (i : LoadIx) (s : State) : Writes auxPieces s (joinWaiting i s) :=
  (walked_joinWaiting i s).only.writes

theorem writes_leaveWaiting (i : LoadIx) (s : State) : Writes auxPieces s (leaveWaiting i s) :=
  (walked_leaveWaiting i s).only.writes

theorem writes_leaveOn (i : LoadIx) (e : AuxEntry) (s : State) : Writes auxPieces s (leaveOn i e s) :=
  (walked_leaveOn i e s).only.writes

theorem writes_enterState (i : LoadIx) (new : LoadState) (cause : AuxCause) (s : State) :
    Writes auxPieces s (enterState i new cause s) := (walked_enterState i new cause s).only.writes

theorem writes_commandLoad (i : LoadIx) (on : Bool) (s : State) : Writes [.lanes] s (commandLoad i on s) :=
  writes_placeCommand _ _ s

theorem writes_handReservation (before : Nat) (s : State) : Writes [] s (handReservation before s) :=
  .ite (.refl _ s) (writes_hand _ s)

theorem writes_admissionPass (s : State) : Writes auxPieces s (admissionPass s) :=
  .foldl (fun s i => .ite (only_admitLoad i s).writes (.refl _ s)) _ s

/-- R114: an event that ends in an admission pass, and R handed over. -/
theorem Writes.passed {s t : State} (h : Writes auxPieces s t) (before : Nat) :
    Writes auxPieces s (handReservation before (admissionPass t)) :=
  (h.comp (writes_admissionPass t)).trans (writes_handReservation before _)

theorem writes_requestOn (i : LoadIx) (s : State) : Writes auxPieces s (requestOn i s) := by
  have hset := writes_setLoad i { loadRec s i with requested := true } s
  unfold requestOn
  dsimp only
  split
  · exact ((hset.comp (writes_joinWaiting _ _)).comp (writes_enterState _ _ _ _)).passed _
  · exact hset

theorem writes_requestOff (i : LoadIx) (s : State) : Writes auxPieces s (requestOff i s) := by
  have hset := writes_setLoad i { loadRec s i with requested := false } s
  unfold requestOff
  dsimp only
  split
  · exact ((hset.comp (writes_leaveOn _ _ _)).comp (writes_enterState _ _ _ _)).passed _
  · exact (hset.comp (writes_leaveWaiting _ _)).comp (writes_enterState _ _ _ _)
  · exact (hset.comp (writes_leaveWaiting _ _)).comp (writes_enterState _ _ _ _)
  · exact hset.comp (writes_enterState _ _ _ _)
  · exact hset

theorem writes_takeRecordAxs (r : BudgetRecord) (s : State) : Writes auxPieces s (takeRecordAxs r s) := by
  have hrecord : Writes auxPieces s { s with axs.record := r } := .of_frame rfl
  have hshed := hrecord.comp (only_excludeAndShed _).writes
  unfold takeRecordAxs
  exact (Writes.ite (hshed.comp (writes_admissionPass _)) hshed).trans (writes_handReservation _ _)

theorem writes_reviewLoads (s : State) : Writes auxPieces s (reviewLoads s) := (only_excludeAndShed s).writes.passed _

theorem writes_judgeFault (i : LoadIx) (faulty : Bool) (s : State) : Writes auxPieces s (judgeFault i faulty s) := by
  unfold judgeFault
  split
  · exact (writes_leaveOn _ _ s).comp (writes_enterState _ _ _ _)
  · exact (writes_leaveWaiting _ s).comp (writes_enterState _ _ _ _)
  · exact (writes_leaveWaiting _ s).comp (writes_enterState _ _ _ _)
  · exact (writes_joinWaiting _ s).comp (writes_enterState _ _ _ _)
  · exact .refl _ s

theorem writes_takeStatus (i : LoadIx) (status : Byte) (s : State) : Writes auxPieces s (takeStatus i status s) := by
  have hresend : ∀ t, Writes auxPieces t (resendOff i (status.getLsbD 0) t) := fun t =>
    .ite (writes_commandLoad i false t).mono (.refl _ t)
  have hjudged := ((writes_setLoad i { loadRec s i with running := some (status.getLsbD 0) } s).comp
    (writes_judgeFault i (status.getLsbD 1) _)).comp (hresend _)
  exact (Writes.ite (hjudged.comp (writes_admissionPass _)) hjudged).trans (writes_handReservation _ _)

theorem writes_retireLoad (old : AuxTable) (s : State) (i : LoadIx) : Writes auxPieces s (retireLoad old s i) := by
  have hset := writes_setLoad i { loadRec s i with requested := false } s
  unfold retireLoad
  split
  · exact .refl _ s
  · dsimp only
    split
    · exact (hset.comp (writes_leaveOn _ _ _)).comp (writes_enterState _ _ _ _)
    · exact (hset.comp (writes_leaveWaiting _ _)).comp (writes_enterState _ _ _ _)
    · exact (hset.comp (writes_leaveWaiting _ _)).comp (writes_enterState _ _ _ _)
    · exact hset.comp (writes_enterState _ _ _ _)
    · exact hset

theorem writes_setReservation (r : Nat) (s : State) : Writes auxPieces s (setReservation r s) := .of_frame rfl

theorem writes_swapAux (new : AuxTable) (s : State) : Writes auxPieces s (swapAux new s) := by
  have hactive : Writes auxPieces s { s with axs.active := new } := .of_frame rfl
  have hretired : Writes auxPieces s (retiredLoads s.axs.active { s with axs.active := new }) :=
    hactive.comp (.foldl (writes_retireLoad _) _ _)
  have hsum : Writes auxPieces s (retired new s) := by
    rw [retired]
    exact hretired.comp (writes_setReservation _ _)
  rw [swapAux_eq]
  exact (hsum.comp (only_excludeAndShed _).writes).passed _

theorem writes_commandAllOff (s : State) : Writes [.lanes] s (commandAllOff s) :=
  .foldl (fun s i => .ite (writes_commandLoad i false s) (.refl _ s)) _ s

/-! ### Tables and the settings lock (R169 to R173, R177) -/

theorem writes_closeTable (s : State) : Writes [.settings] s (closeTable s) := .of_frame rfl

theorem writes_restartOpenTimer (s : State) : Writes [.settings] s (restartOpenTimer s) := .of_frame rfl

theorem writes_copyToShadow (t : TableId) (s : State) : Writes [.shadows] s (copyToShadow t s) := by
  cases t <;> exact .of_frame rfl

theorem writes_discardShadow (t : TableId) (s : State) : Writes [.shadows] s (discardShadow t s) := by
  cases t <;> exact .of_frame rfl

theorem writes_storeWrite {t : TableId} {start count : Nat} {data : List Byte} {s s1 : State}
    (h : storeWrite t start count data s = some s1) : Writes [.shadows] s s1 := by
  cases t <;> obtain ⟨_, -, rfl⟩ := Option.map_eq_some_iff.mp h <;> exact .of_frame rfl

theorem writes_openTableFor (t : TableId) (source : Node) (s : State) :
    Writes [.settings, .shadows] s (openTableFor t source s).1 := by
  unfold openTableFor
  (repeat' split) <;> try exact .refl _ s
  exact (writes_copyToShadow t s).trans (.of_frame rfl : Writes [.settings] _ _)

theorem writes_writeBody (source : Node) (args : List Byte) (s : State) :
    Writes [.settings, .shadows] s (writeBody source args s).1 := by
  unfold writeBody
  (repeat' split) <;> try exact .refl _ s
  rename_i h
  exact (writes_storeWrite h).trans (writes_restartOpenTimer _)

theorem writes_swapSection (t : SectionTable) (s : State) : Writes [.sections, .upstream] s (swapSection t s).1 := by
  have hactive : Writes [.sections] s { s with sct.active := t } := .of_frame rfl
  unfold swapSection
  split
  · exact .of_frame rfl
  · dsimp only
    split
    · exact hactive.mono
    · exact hactive.trans (writes_lookupAndPublish _)

/-- The pieces that a table's commit may write: the active copies, and with them what their owners' swaps write. -/
abbrev commitPieces : List Piece := [.sections, .poles, .loads, .lanes, .intake, .upstream, .settings]

theorem writes_swapTable (t : TableId) (s : State) : Writes commitPieces s (swapTable t s).1 := by
  cases t with
  | sections => exact (writes_swapSection _ s).mono
  | aux =>
    simp only [swapTable]
    exact (writes_swapAux _ s).mono
  | profile => exact (.of_frame rfl : Writes [.poles] s _).mono
  | parameter => exact (.of_frame rfl : Writes [.settings] s _).mono
  | classMap => exact (.of_frame rfl : Writes [.intake] s _).mono

theorem writes_commitTable (source : Node) (t : TableId) (s : State) :
    Writes commitPieces s (commitTable source t s).1 := by
  unfold commitTable
  split
  · split
    · exact (writes_restartOpenTimer s).mono
    · exact (writes_closeTable s).trans (writes_swapTable t _)
  · exact .refl _ s

/-- The pieces that abandoning a table writes. -/
abbrev abandonPieces : List Piece := [.upstream, .settings, .shadows]

theorem writes_abandonTable (cause : AbandonCause) (s : State) : Writes abandonPieces s (abandonTable cause s) := by
  unfold abandonTable
  split
  · exact .refl _ s
  · have hclosed : Writes abandonPieces s (closeTable s) := (writes_closeTable s).mono
    exact (hclosed.comp (writes_discardShadow _ _).mono).trans (writes_placeNotice _ _)

theorem writes_abandonBody (source : Node) (t : TableId) (s : State) :
    Writes abandonPieces s (abandonBody source t s).1 := by
  unfold abandonBody
  split
  · exact writes_abandonTable _ s
  · exact .refl _ s

theorem writes_setLock (s : State) : Writes [.poles, .line, .upstream, .settings, .shadows] s (setLock s) := by
  have habandoned : Writes abandonPieces s (abandonForLock s) := by
    unfold abandonForLock
    split
    · exact .refl _ s
    · exact .ite (writes_abandonTable _ s) (.refl _ s)
  have hplaced : Writes abandonPieces s (lockPlaced s) := habandoned.trans (.of_frame rfl : Writes [.settings] _ _)
  exact hplaced.trans (setLock_acted s).1.writes

/-! ### Requests (R164 to R168) -/

theorem writes_takeRequest {payload : List Byte} {q : Request} {s t : State} (h : takeRequest payload q s = some t) :
    Writes [.requests] s t := by
  obtain ⟨-, -, -, rfl | ⟨_, -, -, -, -, rfl⟩⟩ := takeRequest_spec payload q s t h
  · exact .refl _ _
  · exact .of_frame rfl

theorem writes_respond (dst : Node) (echo : Byte) (reply : Reply) (s : State) :
    Writes [.upstream, .requests] s (respond dst echo reply s) := .of_frame rfl

theorem writes_takeSegment (f : Frame) (s : State) : Writes [.upstream, .requests] s (takeSegment f s) := by
  unfold takeSegment
  (repeat' split) <;> exact .of_frame rfl

/-- A request writes what its body writes, MGE's requests, and the upstream queue. -/
theorem writes_runRequest (code : ReqCode) (q : Request) {body : State → State × Reply} {l : List Piece}
    (hbody : ∀ s, Writes l s (body s).1) (s : State) :
    Writes (.upstream :: .requests :: l) s (runRequest code q body s) := by
  have htaken : ∀ {s1}, takeRequest (reqCodeNum code :: q.args) q s = some s1 →
      Writes (.upstream :: .requests :: l) s s1 := fun h => (writes_takeRequest h).mono (by simp)
  have hanswer : ∀ reply t, Writes (.upstream :: .requests :: l) t (respond q.source (reqCodeNum code) reply t) :=
    fun reply t => (writes_respond _ _ reply t).mono (by simp)
  rcases runRequest_spec code q body s with ⟨-, e⟩ | ⟨s1, h1, ⟨-, e⟩ | ⟨-, e⟩⟩ <;> rw [e]
  · exact .refl _ s
  · exact (htaken h1).comp (hanswer _ _)
  · exact ((htaken h1).comp ((hbody s1).mono fun _ hp => by simp [hp])).comp (hanswer _ _)

theorem writes_readBody (args : List Byte) (fields : State → List Byte) (s : State) :
    Writes [] s (readBody args fields s).1 := by
  unfold readBody
  split <;> exact .refl _ s

theorem writes_readErrorsBody (args : List Byte) (s : State) :
    Writes [.line, .intake, .upstream] s (readErrorsBody args s).1 := by
  unfold readErrorsBody
  split
  · exact .of_frame rfl
  · exact .refl _ s

theorem writes_readTableBody (args : List Byte) (s : State) : Writes [] s (readTableBody args s).1 := by
  unfold readTableBody
  (repeat' split) <;> exact .refl _ s

theorem writes_ackBody (args : List Byte) (s : State) : Writes [.alarms, .upstream] s (ackBody args s).1 := by
  unfold ackBody
  split
  · split
    · exact .foldl (fun s r => writes_ackRecord r s) _ s
    · split
      · exact .refl _ s
      · exact writes_ackRecord _ s
  · exact .refl _ s

theorem writes_polesBody (args : List Byte) {act : List Pole → State → State × Status} {l : List Piece} {s : State}
    (hact : ∀ poles, Writes l s (act poles s).1) : Writes l s (polesBody args act s).1 := by
  unfold polesBody
  split
  · split
    · exact .refl _ s
    · exact hact _
  · exact .refl _ s

theorem writes_maskBody (args : List Byte) (s : State) : Writes [.poles, .line] s (maskBody args s).1 := by
  unfold maskBody
  split
  · split
    · exact writes_setMask _ _ s
    · exact .refl _ s
  · exact .refl _ s

theorem writes_tableBody (args : List Byte) {act : TableId → State → State × Reply} {l : List Piece} {s : State}
    (hact : ∀ t, Writes l s (act t s).1) : Writes l s (tableBody args act s).1 := by
  unfold tableBody
  split
  · split
    · exact .refl _ s
    · exact hact _
  · exact .refl _ s

theorem writes_lockBody (args : List Byte) (s : State) :
    Writes [.poles, .line, .upstream, .settings, .shadows] s (lockBody args s).1 := by
  unfold lockBody
  split
  · exact .ite (.refl _ s) (writes_setLock s)
  · exact .refl _ s

end Sys2Proof.Machine
end

section
/-! What each command writes. -/

namespace Sys2Proof.Machine

/-- The pieces that the two resets write: RESTART keeps the count and the inputs, a power-on reset the inputs alone. -/
abbrev restartPieces : List Piece :=
  [.sections, .poles, .line, .supply, .budget, .traction, .loads, .alarms, .cut, .lanes, .port, .intake, .upstream,
    .requests, .settings, .shadows]

/-- The pieces that a command may write. -/
def footprint : Instr → List Piece
  | .powerOnReset => .clock :: restartPieces
  | .upstreamTxEnd => restartPieces
  | .portUFrameReceived _ => [.lanes, .upstream]
  | .positionFrame _ | .tPosExpiry | .sctParameterCommit => [.sections, .upstream]
  | .tractionDemand _ | .tStaleExpiry => [.traction, .lanes, .upstream]
  | .budgetRecordAtTau _ => [.traction, .lanes]
  | .cutRequest _ => [.traction, .cut, .lanes]
  | .driveStatus _ => [.traction, .intake]
  | .tCutExpiry => [.traction]
  | .auxRequestOn _ | .auxRequestOff _ | .budgetRecordAtAxs _ | .minOnExpiry _ | .minOffExpiry _
  | .axsParameterCommit => auxPieces
  | .auxStatus _ => .intake :: auxPieces
  | .portDFrameReceived _ => [.upstream, .intake]
  | .portDGrant | .portDTxEnd | .holdEnd => [.traction, .cut, .lanes, .port]
  | .holdStart | .holdTimerExpiry => [.lanes, .port]
  | .portSFrameReceived _ | .commandTxStart | .arbitrationLost | .commandTxEnd _ | .tCmdExpiry _ => [.line]
  | .sampleAccepted _ _ | .tSmpExpiry _ | .tRetrExpiry _ => [.poles, .line]
  | .tRaiseExpiry _ => [.poles, .line, .upstream]
  | .sectionViewAtPwu _ => [.poles]
  | .poleReport _ _ _ | .sectionViewAtSmc _ | .poleDropAckReport _ | .noLineTimerExpiry => [.supply, .upstream]
  | .voltageSample _ _ | .modeAtCbu _ | .sectionViewAtCbu _ | .reservationAtCbu _ | .cbuParameterCommit => [.budget]
  | .alarmRaise _ _ | .alarmClear _ => [.alarms, .upstream]
  | .mgmtSegment _ | .tSegExpiry _ | .upstreamTxStart | .readIdent _ | .readState _ | .readLoads _ | .readAlarms _
  | .tableRead _ | .restart _ | .unknownRequest _ => [.upstream, .requests]
  | .ackAlarm _ => [.upstream, .requests, .alarms]
  | .poleRaise _ | .poleLower _ | .setActMask _ => [.upstream, .requests, .poles, .line]
  | .tableOpen _ | .tableWrite _ => [.upstream, .requests, .settings, .shadows]
  | .tableCommit _ => .requests :: commitPieces
  | .tableAbandon _ => .requests :: abandonPieces
  | .tOpenExpiry => abandonPieces
  | .lockSettings _ => [.upstream, .requests, .poles, .line, .settings, .shadows]
  | .readErrors _ => [.upstream, .requests, .line, .intake]

theorem inputs_of_coreView {s t : State} {smc : Smc} {cbu : Cbu} (h : coreView t = { coreView s with smc := smc, cbu := cbu }) :
    t.ms = s.ms ∧ t.strap = s.strap ∧ t.found = s.found ∧ t.pending = s.pending :=
  ⟨congrArg CoreView.ms h, congrArg CoreView.strap h, congrArg CoreView.found h, congrArg CoreView.pending h⟩

theorem writes_restartAll (s : State) : Writes restartPieces s (restartAll s) := by
  obtain ⟨hms, hstrap, hfound, hpending⟩ := inputs_of_coreView (coreView_restartAll s)
  intro p hp
  cases p
  case clock => simp only [Piece.copy, hms]
  case inputs => simp only [Piece.copy, hstrap, hfound, hpending]
  all_goals exact absurd (by simp) hp

theorem writes_powerOnReset {s t : State} (h : execPowerOnReset s = .next t) : Writes (.clock :: restartPieces) s t := by
  obtain rfl : _ = t := Host.Outcome.next.inj h
  intro p hp
  cases p
  case inputs => rfl
  all_goals exact absurd (by simp) hp

theorem writes_admitDemand (f : Frame) (d : Int) (s : State) : Writes [.traction, .lanes] s (admitDemand f d s) :=
  .of_frame rfl

/-- Every command writes the pieces of its footprint and no other. -/
theorem exec_writes (c : Instr) (s t : State) (hx : exec c s = .next t) : Writes (footprint c) s t := by
  cases c <;> simp only [footprint]
  case powerOnReset => exact writes_powerOnReset hx
  case sampleAccepted pole x =>
    obtain rfl := Host.Outcome.next.inj ((exec_sampleAccepted pole x s).symm.trans hx)
    exact writes_sampleDone pole x s
  all_goals obtain rfl : _ = t := Host.Outcome.next.inj hx
  case portUFrameReceived => exact .ite (.of_frame rfl) (writes_receiveU _ s)
  case positionFrame f =>
    refine .afterTaken (c := .positionFrame f) ?_
    split
    · exact (writes_errorU _ _).mono
    · exact .ite (writes_errorU _ _).mono (writes_acceptPosition _ _ _)
  case tPosExpiry => split; exacts [.refl _ s, writes_losePosition s]
  case sctParameterCommit =>
    exact .afterTaken (.ite (writes_publishView _ _) (.refl _ _))
  case tractionDemand f =>
    refine .afterTaken (c := .tractionDemand f) ?_
    split; exacts [(writes_errorU _ _).mono, (writes_admitDemand _ _ _).mono]
  case auxRequestOn f =>
    refine .afterTaken (c := .auxRequestOn f) ?_
    split; exacts [(writes_errorU _ _).mono, writes_requestOn _ _, .refl _ _]
  case auxRequestOff f =>
    refine .afterTaken (c := .auxRequestOff f) ?_
    split; exacts [(writes_errorU _ _).mono, writes_requestOff _ _, .refl _ _]
  case mgmtSegment => exact .afterTaken (writes_takeSegment _ _)
  case tSegExpiry => split; exacts [.of_frame rfl, .refl _ s]
  case portDFrameReceived => split; exacts [.of_frame rfl, writes_receiveD _ s]
  case driveStatus f =>
    refine .afterTaken (c := .driveStatus f) ?_
    split; exacts [(writes_errorD _ _).mono, (writes_judgeStatus _ _).mono]
  case auxStatus f =>
    refine .afterTaken (c := .auxStatus f) ?_
    split
    · exact (writes_errorD _ _).mono
    · split
      · exact (writes_errorD _ _).mono
      · exact .ite (writes_takeStatus _ _ _).mono (.refl _ _)
  case portSFrameReceived => split; exacts [.of_frame rfl, writes_receiveLine _ s]
  case commandTxStart =>
    split
    · exact .refl _ s
    · split; exacts [.refl _ s, writes_startCommand _ s]
  case arbitrationLost =>
    split
    · exact .refl _ s
    · dsimp only
      have hlost : Writes [.line] s { s with pli.sending := none, pli.lineBusy := true } := .of_frame rfl
      split; exacts [hlost, hlost.comp (writes_setSlot _ _ _)]
  case commandTxEnd =>
    split
    · exact .refl _ s
    · dsimp only
      have hended : Writes [.line] s { s with pli.sending := none } := .of_frame rfl
      split; exacts [hended, hended.comp (writes_endCommand _ _ _)]
  case tCmdExpiry => split; exacts [.refl _ s, (writes_setSlot _ _ s).trans (writes_hand _ _)]
  case tSmpExpiry => split; exacts [.refl _ s, (acted_loseSensor _ s).writes]
  case tRaiseExpiry => split; exacts [.refl _ s, (writes_placeNotice _ s).trans (acted_startLowering _ _).writes]
  case tRetrExpiry => split; exacts [.refl _ s, (acted_repeatRetrieval _ s).writes]
  case sectionViewAtPwu => exact .of_frame rfl
  case poleReport => exact .afterTaken (writes_evaluate _)
  case sectionViewAtSmc => exact .afterTaken (writes_evaluate _)
  case poleDropAckReport => exact .afterTaken (writes_evaluate _)
  case noLineTimerExpiry =>
    split
    · exact .refl _ s
    · exact (.of_frame rfl : Writes [.supply] s _).trans (writes_publishMode _ _)
  case voltageSample pole v =>
    have hstored : Writes [.budget] s (setVolts pole v (taken (.voltageSample pole v) s)) := by
      cases pole <;> exact .of_frame rfl
    exact hstored.comp (writes_recompute _)
  case modeAtCbu => exact (.of_frame rfl : Writes [.budget] s _).comp (writes_recompute _)
  case sectionViewAtCbu => exact (.of_frame rfl : Writes [.budget] s _).comp (writes_recompute _)
  case reservationAtCbu => exact (.of_frame rfl : Writes [.budget] s _).comp (writes_recompute _)
  case cbuParameterCommit => exact .afterTaken (writes_recompute _)
  case budgetRecordAtTau => exact .afterTaken (writes_takeRecord _ _)
  case budgetRecordAtAxs => exact .afterTaken (writes_takeRecordAxs _ _)
  case cutRequest => exact .of_frame rfl
  case tStaleExpiry => split; exacts [.refl _ s, writes_holdStale s]
  case tCutExpiry => split; exacts [.refl _ s, .of_frame rfl]
  case minOnExpiry => exact writes_setLoad _ _ s
  case minOffExpiry => split; exacts [.refl _ s, (writes_setLoad _ _ s).passed _]
  case axsParameterCommit => exact .afterTaken (writes_reviewLoads _)
  case alarmRaise => exact .afterTaken (writes_raiseAlarm _ _ _)
  case alarmClear => exact .afterTaken (writes_clearAlarm _ _)
  case portDGrant => exact writes_grant s
  case portDTxEnd => split; exacts [.refl _ s, writes_endPortD _ s]
  case holdStart => split; exacts [.refl _ s, .of_frame rfl]
  case holdEnd =>
    split
    · have hended : Writes [.lanes, .port] s { s with dec.held := false, dec.heldExpired := false, dec.tHeld := none } :=
        .of_frame rfl
      exact (hended.trans (writes_judgeLinkHeld _) : Writes [.lanes, .port] s _).trans (writes_grant _)
    · exact .refl _ s
  case holdTimerExpiry => split; exacts [.refl _ s, .of_frame rfl]
  case upstreamTxStart => split; exacts [.refl _ s, writes_startUpstream s]
  case upstreamTxEnd =>
    split
    · exact .refl _ s
    · dsimp only
      have hended : Writes [.upstream] s { s with upi.sending := none } := .of_frame rfl
      split; exacts [hended.trans (writes_restartAll _), hended.mono]
  case readIdent => exact writes_runRequest _ _ (writes_readBody _ _) s
  case readState => exact writes_runRequest _ _ (writes_readBody _ _) s
  case readLoads => exact writes_runRequest _ _ (writes_readBody _ _) s
  case readAlarms => exact writes_runRequest _ _ (writes_readBody _ _) s
  case readErrors => exact (writes_runRequest _ _ (writes_readErrorsBody _) s).mono
  case ackAlarm => exact (writes_runRequest _ _ (writes_ackBody _) s).mono
  case poleRaise => exact writes_runRequest _ _ (fun s1 => writes_polesBody _ (writes_raisePoles · s1)) s
  case poleLower => exact writes_runRequest _ _ (fun s1 => writes_polesBody _ (writes_lowerPoles · s1)) s
  case setActMask => exact writes_runRequest _ _ (writes_maskBody _) s
  case tableOpen q => exact writes_runRequest _ _ (fun s1 => writes_tableBody _ (writes_openTableFor · q.source s1)) s
  case tableWrite => exact writes_runRequest _ _ (writes_writeBody _ _) s
  case tableRead => exact writes_runRequest _ _ (writes_readTableBody _) s
  case tableCommit q =>
    exact (writes_runRequest _ _ (fun s1 => writes_tableBody _ (writes_commitTable q.source · s1)) s).mono
  case tableAbandon q =>
    exact (writes_runRequest _ _ (fun s1 => writes_tableBody _ (writes_abandonBody q.source · s1)) s).mono
  case tOpenExpiry => exact writes_abandonTable _ s
  case lockSettings => exact (writes_runRequest _ _ (writes_lockBody _) s).mono
  case restart =>
    split
    · exact .refl _ s
    · rename_i h1
      have htaken := writes_takeRequest h1
      split; exacts [htaken.trans (writes_respond _ _ _ _), htaken.trans (.of_frame rfl : Writes [.upstream, .requests] _ _)]
  case unknownRequest =>
    split
    · split
      · exact .refl _ s
      · rename_i h1
        exact (writes_takeRequest h1).trans (writes_respond _ _ _ _)
    · exact .refl _ s

end Sys2Proof.Machine
end

section
/-! TAU stays legal under every step (R89, R92, R96): the admitted demand within the record in use, T_cut with the window,
and the cut slot with the cut that waits. -/

namespace Sys2Proof.Machine

/-! ### The admitted demand (R84, R85, R92) -/

/-- R84, R87: whatever is demanded, what is admitted lies within the record. -/
theorem admitted_within (r : BudgetRecord) (step : Nat) (p d : Int) :
    -(r.regen : Int) ≤ stepDemand step p (clipDemand r d) ∧ stepDemand step p (clipDemand r d) ≤ (r.motoring : Int) := by
  rcases stepDemand_within step p (clipDemand r d) with ⟨-, hlow, hhigh⟩ | ⟨-, hlow, hhigh⟩
  · rcases hlow.eq_or_lt with hzero | hpos
    · omega
    · have hclip := (clipDemand_pos (hpos.trans_le hhigh)).2
      omega
  · rcases hhigh.eq_or_lt with hzero | hneg
    · omega
    · have hclip := (clipDemand_neg (hlow.trans_lt hneg)).2
      omega

/-- What leaves TAU and the cut slot keeps TAU legal. -/
theorem TractionLegal.kept {s t : State} (h : TractionLegal s) (htau : t.tau = s.tau)
    (hcut : t.dec.lanes.cut = s.dec.lanes.cut) : TractionLegal t := by
  unfold TractionLegal
  rwa [htau, hcut]

theorem TractionLegal.written {l : List Piece} {s t : State} (h : TractionLegal s) (hw : Writes l s t)
    (htau : .traction ∉ l := by simp) (hcut : .cut ∉ l := by simp) : TractionLegal t :=
  h.kept (hw.tau htau) (hw.cutSlot hcut)

/-- R91, R92, R94: another demand, of the record then in use, touches neither the window nor the cut. -/
theorem TractionLegal.readmitted {s t : State} (h : TractionLegal s) {p d : Int} {r : BudgetRecord} {stale : Timer}
    (htau : t.tau = { s.tau with admitted := p, requested := d, record := r, tStale := stale })
    (hcut : t.dec.lanes.cut = s.dec.lanes.cut) (hlow : -(r.regen : Int) ≤ p) (hhigh : p ≤ (r.motoring : Int)) :
    TractionLegal t := by
  obtain ⟨-, -, hwindow, hslot⟩ := h
  unfold TractionLegal
  rw [htau, hcut]
  exact ⟨hlow, hhigh, hwindow, hslot⟩

theorem TractionLegal.admitDemand {s : State} (h : TractionLegal s) (f : Frame) (d : Int) :
    TractionLegal (admitDemand f d s) := by
  obtain ⟨hlow, hhigh⟩ := admitted_within s.tau.record (sStep s.mge.params) s.tau.admitted d
  exact h.readmitted rfl rfl hlow hhigh

/-- R92: whichever allowance the demand exceeds, it is re-clipped to it. -/
theorem TractionLegal.takeRecord {s : State} (h : TractionLegal s) (r : BudgetRecord) :
    TractionLegal (takeRecord r s) := by
  by_cases hm : (r.motoring : Int) < s.tau.admitted
  · rw [takeRecord_motoring hm]
    exact h.readmitted rfl rfl (by omega) le_rfl
  · by_cases hg : s.tau.admitted < -(r.regen : Int)
    · rw [takeRecord_regen (not_lt.mp hm) hg]
      exact h.readmitted rfl rfl le_rfl (by omega)
    · rw [takeRecord_within (not_lt.mp hm) (not_lt.mp hg)]
      exact h.readmitted rfl rfl (not_lt.mp hg) (not_lt.mp hm)

/-- R94: a demand of 0 is within every record. -/
theorem TractionLegal.holdStale {s : State} (h : TractionLegal s) : TractionLegal (holdStale s) := by
  by_cases hp : s.tau.admitted = 0
  · obtain ⟨hlow, hhigh, -⟩ := id h
    rw [holdStale_zero hp]
    exact h.readmitted rfl rfl hlow hhigh
  · rw [holdStale_nonzero hp]
    refine TractionLegal.written ?_ (writes_placeNotice _ _)
    exact h.readmitted rfl rfl (by simp) (by simp)

/-! ### The cut and its window (R96 to R100) -/

/-- R96, R97: the waiting cut frame takes the new cause, and is placed where none waits. -/
theorem TractionLegal.requestCut {s : State} (h : TractionLegal s) (cause : CutCause) :
    TractionLegal (requestCut cause s) := by
  obtain ⟨-, -, hwindow, hslot⟩ := h
  refine ⟨by simp [Machine.requestCut], by simp [Machine.requestCut], hwindow, ?_⟩
  cases hw : s.tau.cutWaiting with
  | none => simp [Machine.requestCut, cutLanes, cutFrame, builtFrame, hw]
  | some old =>
    rw [hw] at hslot
    obtain ⟨f, hf, -⟩ := Option.map_eq_some_iff.mp hslot
    simp [Machine.requestCut, cutLanes, hw, hf]

/-- R153: a lane gives up the cut slot's frame exactly where it is TAU's cut frame. -/
theorem takeFrom_cutSlot {lane : Lane} {l rest : Lanes} {f : Frame} {isCut : Bool}
    (h : takeFrom lane l = some (f, rest, isCut)) : rest.cut = if isCut then none else l.cut := by
  cases lane with
  | safety =>
    cases hc : l.cut with
    | some g =>
      rw [takeFrom_cut hc] at h
      cases h
      rfl
    | none =>
      cases hf : l.fifo0 with
      | nil => simp [takeFrom, hc, hf] at h
      | cons g tail =>
        rw [takeFrom_fifo0 hc hf] at h
        cases h
        exact hc
  | traction =>
    obtain ⟨g, -, hg⟩ := Option.map_eq_some_iff.mp h
    cases hg
    rfl
  | general =>
    cases hs : l.slots with
    | cons x tail =>
      rw [takeFrom_slots hs] at h
      cases h
      rfl
    | nil =>
      cases hf : l.fifo2 with
      | nil => simp [takeFrom, hs, hf] at h
      | cons g tail =>
        rw [takeFrom_fifo2 hs hf] at h
        cases h
        rfl

/-- R98: the cut that starts on the wire waits no longer, in TAU and in its slot. -/
theorem TractionLegal.grant {s : State} (h : TractionLegal s) : TractionLegal (grant s) := by
  rcases grant_cases s with e | ⟨lane, count, f, rest, isCut, ht, e⟩ <;> rw [e]
  · exact h
  · obtain ⟨hlow, hhigh, hwindow, hslot⟩ := h
    refine ⟨hlow, hhigh, hwindow, ?_⟩
    have hrest := takeFrom_cutSlot ht
    cases isCut with
    | true => simp only [granted, hrest, if_true, Option.map_none]
    | false => exact (congrArg (Option.map Frame.payload) hrest).trans hslot

/-- R98, R99, R100: the window opens with T_cut started and closes with it stopped. -/
theorem TractionLegal.windowed {s t : State} (h : TractionLegal s) {window unconfirmed : Bool} {tCut : Timer}
    (htau : t.tau = { s.tau with window := window, tCut := tCut, unconfirmed := unconfirmed })
    (hcut : t.dec.lanes.cut = s.dec.lanes.cut) (hw : window = true ↔ tCut.isSome = true) : TractionLegal t := by
  obtain ⟨hlow, hhigh, -, hslot⟩ := h
  unfold TractionLegal
  rw [htau, hcut]
  exact ⟨hlow, hhigh, hw, hslot⟩

theorem TractionLegal.portFreed {s : State} (h : TractionLegal s) (x : PortDTx) : TractionLegal (portFreed x s) := by
  unfold Machine.portFreed
  split
  · exact h.windowed rfl rfl (by simp)
  · exact h

theorem TractionLegal.endPortD {s : State} (h : TractionLegal s) (x : PortDTx) : TractionLegal (endPortD x s) := by
  have hfreed := h.portFreed x
  rw [endPortD_eq]
  refine TractionLegal.grant ?_
  split
  · exact hfreed.written (writes_judgeLinkHeld _)
  · exact hfreed

theorem TractionLegal.judgeStatus {s : State} (h : TractionLegal s) (i : Int) : TractionLegal (judgeStatus i s) := by
  by_cases hi : i.natAbs ≤ iResidual s.mge.params
  · obtain ⟨-, -, hwindow, -⟩ := id h
    rw [judgeStatus_low hi]
    refine h.windowed rfl rfl ?_
    cases hw : s.tau.window <;> simp_all
  · rwa [judgeStatus_high (not_le.mp hi)]

/-! ### The resets and the passing of time -/

theorem tractionLegal_fresh {t : State} {params : ParamTable} (htau : t.tau = .fresh params)
    (hcut : t.dec.lanes.cut = none) : TractionLegal t := by
  simp [TractionLegal, htau, hcut, Tau.fresh, resetRecord]

/-- R104, R178: TAU starts afresh and requests the RESTART cut; the OFF commands go to lane 2. -/
theorem tractionLegal_restartAll (s : State) : TractionLegal (restartAll s) := by
  have hfresh : TractionLegal (placeNotice [8] (restartValues s)) :=
    (tractionLegal_fresh (t := restartValues s) rfl rfl).written (writes_placeNotice _ _)
  exact (hfresh.requestCut .restart).written (writes_commandAllOff _)

theorem TractionLegal.tick {s : State} (h : TractionLegal s) : TractionLegal (tick s) := by
  obtain ⟨hlow, hhigh, hwindow, hslot⟩ := h
  refine ⟨hlow, hhigh, ?_, hslot⟩
  simpa only [Machine.tick, Timer.tick, Option.isSome_map] using hwindow

/-! ### Every step -/

/-- Every command keeps TAU legal: those that write it or the cut slot by what they write, the others by their
footprint. -/
theorem exec_keeps_traction (c : Instr) (s t : State) (h : TractionLegal s) (hx : exec c s = .next t) :
    TractionLegal t := by
  by_cases hc : .traction ∉ footprint c ∧ .cut ∉ footprint c
  · obtain ⟨htau, hcut⟩ := hc
    exact h.written (exec_writes c s t hx) htau hcut
  · cases c <;> simp [footprint, auxPieces, commitPieces, abandonPieces] at hc <;>
      obtain rfl : _ = t := Host.Outcome.next.inj hx
    case powerOnReset => exact tractionLegal_fresh rfl rfl
    case upstreamTxEnd =>
      split
      · exact h
      · dsimp only
        split; exacts [tractionLegal_restartAll _, h]
    case tractionDemand f =>
      have htaken : TractionLegal (taken (.tractionDemand f) s) := h
      split; exacts [htaken, htaken.admitDemand _ _]
    case driveStatus f =>
      have htaken : TractionLegal (taken (.driveStatus f) s) := h
      split; exacts [htaken, htaken.judgeStatus _]
    case budgetRecordAtTau r => exact TractionLegal.takeRecord (s := taken (.budgetRecordAtTau r) s) h r
    case cutRequest cause => exact TractionLegal.requestCut (s := taken (.cutRequest cause) s) h cause
    case tStaleExpiry => split; exacts [h, h.holdStale]
    case tCutExpiry => split; exacts [h, h.windowed rfl rfl (by simp)]
    case portDGrant => exact h.grant
    case portDTxEnd => split; exacts [h, h.endPortD _]
    case holdEnd =>
      split
      · refine TractionLegal.grant (TractionLegal.written ?_ (writes_judgeLinkHeld _))
        exact h
      · exact h

/-- Settles O56: TAU's own events keep it legal, a grant takes the cut from TAU and its slot together, and no other
command touches either. -/
theorem tractionStaysLegal : Obligations.TractionStaysLegal := by
  intro s t h hs
  rcases step_cases s t hs with ⟨c, rest, -, hx⟩ | ⟨c, -, -, hx⟩ | ⟨-, -, rfl⟩
  · exact exec_keeps_traction c { s with pending := rest } t h hx
  · exact exec_keeps_traction c s t h hx
  · exact h.tick

end Sys2Proof.Machine
end

section
/-! The waiting list's order and the shed order (R108, R116, R118). -/

namespace Sys2Proof.Machine

section Sorting

variable {α : Type} {before : α → α → Bool}

theorem sortBy_sorted (ho : WeakOrder before) (l : List α) : SortedBy before (sortBy before l) := by
  have hfold : ∀ acc, SortedBy before acc → SortedBy before (l.foldl (fun acc x => insertSorted before x acc) acc) := by
    induction l with
    | nil => exact fun _ hacc => hacc
    | cons x rest ih => exact fun _ hacc => ih _ (insertSorted_sorted ho x hacc)
  exact hfold [] List.Pairwise.nil

theorem insertSorted_of_none {x : α} {l : List α} (h : ∀ y ∈ l, before x y = false) :
    insertSorted before x l = l ++ [x] := by
  induction l with
  | nil => rfl
  | cons y rest ih =>
    have ih' := ih fun z hz => h z (List.mem_cons_of_mem _ hz)
    simp [insertSorted, h y List.mem_cons_self, ih']

/-- Elements that the order does not tell apart keep their places. -/
theorem sortBy_of_none {l : List α} (h : ∀ x ∈ l, ∀ y ∈ l, before x y = false) : sortBy before l = l := by
  have hfold : ∀ done todo, done ++ todo = l →
      todo.foldl (fun acc x => insertSorted before x acc) done = done ++ todo := by
    intro done todo
    induction todo generalizing done with
    | nil => simp
    | cons x rest ih =>
      intro hl
      have hx : insertSorted before x done = done ++ [x] :=
        insertSorted_of_none fun y hy => h x (by simp [← hl]) y (by simp [← hl, hy])
      rw [List.foldl_cons, hx, ih _ (by simpa using hl), List.append_assoc]
      rfl
  exact hfold [] l rfl

end Sorting

/-- R108: the order of the waiting list. -/
theorem priorityBefore_weakOrder (s : State) : WeakOrder fun a b => decide (priority s a < priority s b) where
  asymm x y h := by
    rw [decide_eq_true_eq] at h
    rw [decide_eq_false_iff_not]
    omega
  split x y z h := by
    simp only [decide_eq_true_eq] at h ⊢
    omega

theorem waitingList_pairwise (s : State) : (waitingList s).Pairwise fun a b => priority s a ≤ priority s b :=
  (sortBy_sorted (priorityBefore_weakOrder s) s.axs.joinOrder).imp fun h => not_lt.mp (of_decide_eq_false h)

/-- R108: loads of one priority wait in the order in which they joined. -/
theorem waitingList_filter_priority (s : State) (k : Nat) :
    (waitingList s).filter (fun i => decide (priority s i = k)) =
      s.axs.joinOrder.filter fun i => decide (priority s i = k) := by
  rw [waitingList, filter_sortBy (priorityBefore_weakOrder s)]
  refine sortBy_of_none fun x hx y hy => ?_
  have hpx : priority s x = k := of_decide_eq_true (List.mem_filter.mp hx).2
  have hpy : priority s y = k := of_decide_eq_true (List.mem_filter.mp hy).2
  simp [hpx, hpy]

theorem onLoads_pairwise (s : State) : (onLoads s).Pairwise fun a b => priority s b < priority s a ∨
    (priority s b = priority s a ∧ (loadRec s b).order.getD 0 ≤ (loadRec s a).order.getD 0) := by
  refine (sortBy_sorted (shedBefore_weakOrder s) _).imp fun h => ?_
  simp only [shedBefore, Bool.or_eq_false_iff, Bool.and_eq_false_iff, decide_eq_false_iff_not] at h
  omega

/-- Settles O27: both lists are sorted, and sorting keeps the elements, each once, and the order of equals. -/
theorem ordersOfLoads : Obligations.OrdersOfLoads := fun s =>
  ⟨sortBy_perm _, waitingList_pairwise s, waitingList_filter_priority s, fun _ => mem_onLoads, nodup_onLoads s,
    onLoads_pairwise s⟩

end Sys2Proof.Machine
end

section
/-! What AXS's operations make of a state whose record of the load has just been written. -/

namespace Sys2Proof.Machine

/-! ### One load -/

theorem setLoad_setLoad (i : LoadIx) (r q : LoadRec) (s : State) : setLoad i r (setLoad i q s) = setLoad i r s := by
  simp only [setLoad, Vector.set_set]

theorem setLoad_placeCommand (i : LoadIx) (r : LoadRec) (f : Frame) (s : State) :
    setLoad i r (placeCommand i f s) = placeCommand i f (setLoad i r s) := rfl

theorem enterState_setLoad (i : LoadIx) (new : LoadState) (cause : AuxCause) (r : LoadRec) (s : State) :
    enterState i new cause (setLoad i r s) =
      placeNotice (auxStatePayload i (loadStateCode r.state) (loadStateCode new) (auxCauseCode cause) s.axs.reservation)
        (setLoad i { r with state := new } s) := by
  rw [enterState, loadRec_setLoad_same, setLoad_setLoad]
  rfl

theorem joinWaiting_setLoad (i : LoadIx) (r : LoadRec) (s : State) :
    joinWaiting i (setLoad i r s) =
      setLoad i { r with joined := some s.ms } { s with axs.joinOrder := s.axs.joinOrder ++ [i] } := by
  rw [joinWaiting, loadRec_setLoad_same, setLoad_setLoad]
  rfl

theorem leaveWaiting_setLoad (i : LoadIx) (r : LoadRec) (s : State) :
    leaveWaiting i (setLoad i r s) = setLoad i { r with joined := none }
      { s with axs.joinOrder := s.axs.joinOrder.filter fun j => decide (j ≠ i) } := by
  rw [leaveWaiting, loadRec_setLoad_same, setLoad_setLoad]
  rfl

theorem leaveOn_setLoad (i : LoadIx) (e : AuxEntry) (r : LoadRec) (s : State) :
    leaveOn i e (setLoad i r s) = placeCommand i (offCommand s e i)
      (setLoad i (leftOn e r) { s with axs.reservation := s.axs.reservation - e.nominal.toNat }) := by
  have hrec : loadRec (placeCommand i (auxCommand (setLoad i r s) e.node i false) (setLoad i r s)) i = r :=
    loadRec_setLoad_same s i r
  rw [leaveOn]
  dsimp only
  rw [hrec, ← setLoad_placeCommand]
  simp only [setLoad, placeCommand, changeLanes, Vector.set_set]
  rfl

/-! ### The three ways of a load: onto the waiting list, off it, and out of ON -/

/-- R108, R129: a load that joins the waiting list in a new state. -/
theorem enterState_joinWaiting (i : LoadIx) (new : LoadState) (cause : AuxCause) (r : LoadRec) (s : State) :
    enterState i new cause (joinWaiting i (setLoad i r s)) =
      placeNotice (auxStatePayload i (loadStateCode r.state) (loadStateCode new) (auxCauseCode cause) s.axs.reservation)
        (setLoad i { r with state := new, joined := some s.ms }
          { s with axs.joinOrder := s.axs.joinOrder ++ [i] }) := by
  rw [joinWaiting_setLoad, enterState_setLoad]

/-- R108, R129: a load that leaves the waiting list for a new state. -/
theorem enterState_leaveWaiting (i : LoadIx) (new : LoadState) (cause : AuxCause) (r : LoadRec) (s : State) :
    enterState i new cause (leaveWaiting i (setLoad i r s)) =
      placeNotice (auxStatePayload i (loadStateCode r.state) (loadStateCode new) (auxCauseCode cause) s.axs.reservation)
        (setLoad i { r with state := new, joined := none }
          { s with axs.joinOrder := s.axs.joinOrder.filter fun j => decide (j ≠ i) }) := by
  rw [leaveWaiting_setLoad, enterState_setLoad]

/-- R109, R112, R129: a load that leaves ON for a new state. -/
theorem enterState_leaveOn (i : LoadIx) (e : AuxEntry) (new : LoadState) (cause : AuxCause) (r : LoadRec) (s : State) :
    enterState i new cause (leaveOn i e (setLoad i r s)) =
      placeNotice (auxStatePayload i (loadStateCode r.state) (loadStateCode new) (auxCauseCode cause)
          (s.axs.reservation - e.nominal.toNat))
        (placeCommand i (offCommand s e i) (setLoad i { leftOn e r with state := new }
          { s with axs.reservation := s.axs.reservation - e.nominal.toNat })) := by
  rw [leaveOn_setLoad, ← setLoad_placeCommand, enterState_setLoad, setLoad_placeCommand]
  rfl

/-! ### The ends of events (R81, R109, R114) -/

/-- R114, R109: an admission pass from a state, and R handed over. -/
theorem passedAndHanded (s : State) {s0 : State} (h : s0.axs.joinOrder.Nodup) :
    PassedAndHanded s s0 (handReservation s.axs.reservation (admissionPass s0)) := by
  have hpassed := admissionPass_passed h
  obtain ⟨-, -, -, -, -, -, -, hhanded⟩ := id hpassed
  obtain ⟨hhands, hsame⟩ := handReservation_spec s (admissionPass s0)
  rw [hhanded] at hhands hsame
  exact ⟨hsame.symm ▸ hpassed, hhands⟩

/-- R114, R109: an event that ends in an admission pass where it asks for one, and R handed over. -/
theorem ended_spec (s : State) {s0 : State} (h : s0.axs.joinOrder.Nodup) (p : Prop) [Decidable p] :
    let t := handReservation s.axs.reservation (if p then admissionPass s0 else s0)
    (if p then Passed s0 { t with handed := s0.handed } else { t with handed := s0.handed } = s0) ∧
      HandsReservation s0.handed s t := by
  by_cases hp : p
  · simp only [if_pos hp]
    exact passedAndHanded s h
  · simp only [if_neg hp]
    obtain ⟨hhands, hsame⟩ := handReservation_spec s s0
    exact ⟨hsame, hhands⟩

/-! ### Requests (R110 to R112) -/

/-- R110: the frames that are ignored. -/
def IgnoredRequest (f : Frame) (s : State) : Prop :=
  f.payload.length ≠ 2 ∨ ∃ id wanted, f.payload = [id, wanted] ∧
    ((∀ i, loadOf id = some i → (auxEntry s i).valid = false) ∨ (wanted ≠ 0 ∧ wanted ≠ 1))

theorem auxPayload_none {payload : List Byte} (h : payload.length ≠ 2) : auxPayload payload = none := by
  unfold auxPayload
  split
  · exact absurd rfl h
  · rfl

theorem validLoad_some {s : State} {id : Byte} {i : LoadIx} (hi : loadOf id = some i)
    (hv : (auxEntry s i).valid = true) : validLoad s id = some i := by
  simp only [validLoad, hi, hv, if_true]

theorem validLoad_none {s : State} {id : Byte} (h : ∀ i, loadOf id = some i → (auxEntry s i).valid = false) :
    validLoad s id = none := by
  cases hi : loadOf id with
  | none => simp only [validLoad, hi]
  | some i => simp only [validLoad, hi, h i hi, Bool.false_eq_true, if_false]

theorem judgeAuxRequest_ignored {f : Frame} {s : State} (h : IgnoredRequest f s) : judgeAuxRequest f s = none := by
  rcases h with hlen | ⟨id, wanted, hf, hbad | ⟨h0, h1⟩⟩
  · simp only [judgeAuxRequest, auxPayload_none hlen]
  · simp only [judgeAuxRequest, hf, auxPayload, validLoad_none hbad]
  · simp only [judgeAuxRequest, hf, auxPayload, if_neg h0, if_neg h1]
    split <;> rfl

theorem judgeAuxRequest_on {f : Frame} {s : State} {id : Byte} {i : LoadIx} (hf : f.payload = [id, 1])
    (hi : loadOf id = some i) (hv : (auxEntry s i).valid = true) : judgeAuxRequest f s = some (i, true) := by
  simp only [judgeAuxRequest, hf, auxPayload, validLoad_some hi hv, if_true]

theorem judgeAuxRequest_off {f : Frame} {s : State} {id : Byte} {i : LoadIx} (hf : f.payload = [id, 0])
    (hi : loadOf id = some i) (hv : (auxEntry s i).valid = true) : judgeAuxRequest f s = some (i, false) := by
  simp only [judgeAuxRequest, hf, auxPayload, validLoad_some hi hv]
  rfl

section Requested

variable {i : LoadIx} {s : State}

/-- R111: a load that is not OFF is marked requested and stays as it is. -/
theorem requestOn_marked (h : (loadRec s i).state ≠ .off) :
    requestOn i s = setLoad i { loadRec s i with requested := true } s := by
  unfold requestOn
  dsimp only
  rw [loadRec_setLoad_same]
  split
  · exact absurd (by assumption) h
  · rfl

/-- R111: the state of a load's joining by request. -/
def requestJoined (i : LoadIx) (s : State) : State :=
  placeNotice (auxStatePayload i 0 1 1 s.axs.reservation)
    (setLoad i { loadRec s i with state := .waiting, requested := true, joined := some s.ms }
      { s with axs.joinOrder := s.axs.joinOrder ++ [i] })

theorem requestOn_off (h : (loadRec s i).state = .off) :
    requestOn i s = handReservation s.axs.reservation (admissionPass (requestJoined i s)) := by
  simp only [requestOn, loadRec_setLoad_same, h, enterState_joinWaiting]
  rfl

/-- R112: the state after an ON load has left ON by request, and before the pass. -/
def requestLeft (i : LoadIx) (s : State) : State :=
  placeNotice (auxStatePayload i 2 0 2 (s.axs.reservation - nominal s i))
    (placeCommand i (offCommand s (auxEntry s i) i)
      (setLoad i { leftOn (auxEntry s i) (loadRec s i) with state := .off, requested := false }
        { s with axs.reservation := s.axs.reservation - nominal s i }))

theorem requestOff_on (h : (loadRec s i).state = .on) :
    requestOff i s = handReservation s.axs.reservation (admissionPass (requestLeft i s)) := by
  simp only [requestOff, loadRec_setLoad_same, h, enterState_leaveOn]
  rfl

theorem requestOff_listed (h : (loadRec s i).state = .waiting ∨ (loadRec s i).state = .shed) :
    requestOff i s = placeNotice (auxStatePayload i (loadStateCode (loadRec s i).state) 0 2 s.axs.reservation)
      (setLoad i { loadRec s i with state := .off, requested := false, joined := none }
        { s with axs.joinOrder := s.axs.joinOrder.filter fun j => decide (j ≠ i) }) := by
  rcases h with h | h
  · simp only [requestOff, loadRec_setLoad_same, h, enterState_leaveWaiting]
    rfl
  · simp only [requestOff, loadRec_setLoad_same, h, enterState_leaveWaiting]
    rfl

theorem requestOff_fault (h : (loadRec s i).state = .fault) :
    requestOff i s = placeNotice (auxStatePayload i 4 0 2 s.axs.reservation)
      (setLoad i { loadRec s i with state := .off, requested := false } s) := by
  simp only [requestOff, loadRec_setLoad_same, h, enterState_setLoad]
  rfl

theorem requestOff_off (h : (loadRec s i).state = .off) :
    requestOff i s = setLoad i { loadRec s i with requested := false } s := by
  simp only [requestOff, loadRec_setLoad_same, h]

end Requested

end Sys2Proof.Machine
end

section
/-! Legal loads (R107 to R109, R113, R118): the invariant in two parts, and what keeps each. -/

namespace Sys2Proof.Machine

/-! ### The two parts of the invariant -/

/-- What the state of a load says of its record, given whether it is listed and whether its entry is valid (R107, R108,
R120, R128). -/
structure LoadRecordLegal (listed : Prop) (valid : Bool) (r : LoadRec) : Prop where
  listed    : listed ↔ r.state = .waiting ∨ r.state = .shed
  joined    : r.joined.isSome = true ↔ r.state = .waiting ∨ r.state = .shed
  requested : r.requested = true ↔ r.state ≠ .off
  minOn     : r.minOn.isSome = true → r.state = .on
  minOff    : r.state = .on → r.minOff = none
  invalid   : valid = false → r.state = .off

/-- R108, R109: `LoadsLegal` without what the mode in use asks of the loads ON. -/
structure LoadsOrdered (s : State) : Prop where
  sum    : s.axs.reservation = onSum s
  nodup  : s.axs.joinOrder.Nodup
  record : ∀ i, LoadRecordLegal (i ∈ s.axs.joinOrder) (auxEntry s i).valid (loadRec s i)

/-- R113, R118: where the mode in use is from battery, the ON loads are battery loads. -/
def OnFromBattery (s : State) : Prop :=
  ∀ i, (loadRec s i).state = .on → s.axs.record.mode ≠ .wire → (auxEntry s i).battery = true

theorem loadsLegal_iff {s : State} : LoadsLegal s ↔ LoadsOrdered s ∧ OnFromBattery s := by
  have hmode : fromBattery s.axs.record.mode = true ↔ s.axs.record.mode ≠ .wire := by simp [fromBattery]
  constructor
  · rintro ⟨hsum, hnodup, hload⟩
    refine ⟨⟨hsum, hnodup, fun i => ?_⟩, fun i hon hm => ?_⟩
    · obtain ⟨hlisted, hjoined, hreq, hmin, hoff, hinvalid, -⟩ := hload i
      exact ⟨hlisted, hjoined, hreq, hmin, hoff, hinvalid⟩
    · obtain ⟨-, -, -, -, -, -, hbattery⟩ := hload i
      exact hbattery hon (hmode.mpr hm)
  · rintro ⟨⟨hsum, hnodup, hrecord⟩, hbattery⟩
    refine ⟨hsum, hnodup, fun i => ?_⟩
    obtain ⟨hlisted, hjoined, hreq, hmin, hoff, hinvalid⟩ := hrecord i
    exact ⟨hlisted, hjoined, hreq, hmin, hoff, hinvalid, fun hon hm => hbattery i hon (hmode.mp hm)⟩

theorem LoadsLegal.ordered {s : State} (h : LoadsLegal s) : LoadsOrdered s := (loadsLegal_iff.mp h).1

theorem LoadsLegal.battery {s : State} (h : LoadsLegal s) : OnFromBattery s := (loadsLegal_iff.mp h).2

theorem LoadsOrdered.listed {s : State} (h : LoadsOrdered s) : LoadsListed s :=
  ⟨h.nodup, fun i => (h.record i).listed.mp, h.sum⟩

/-! ### What leaves AXS -/

/-- The shadow copy apart, what leaves AXS keeps the loads legal. -/
theorem LoadsLegal.kept {s t : State} (h : LoadsLegal s) (haxs : t.axs = { s.axs with shadow := t.axs.shadow }) :
    LoadsLegal t := by
  have hactive : t.axs.active = s.axs.active := (congrArg Axs.active haxs).trans rfl
  have hloads : t.axs.loads = s.axs.loads := (congrArg Axs.loads haxs).trans rfl
  have hjoin : t.axs.joinOrder = s.axs.joinOrder := (congrArg Axs.joinOrder haxs).trans rfl
  have hres : t.axs.reservation = s.axs.reservation := (congrArg Axs.reservation haxs).trans rfl
  have hrecord : t.axs.record = s.axs.record := (congrArg Axs.record haxs).trans rfl
  unfold LoadsLegal LoadLegal onSum nominal loadRec auxEntry
  rw [hactive, hloads, hjoin, hres, hrecord]
  exact h

theorem Writes.axs {l : List Piece} {s t : State} (h : Writes l s t) (hl : .loads ∉ l := by simp) :
    t.axs = { s.axs with shadow := t.axs.shadow } :=
  congrArg (fun u : State => { u.axs with shadow := t.axs.shadow }) (h .loads hl)

theorem LoadsLegal.written {l : List Piece} {s t : State} (h : LoadsLegal s) (hw : Writes l s t)
    (hl : .loads ∉ l := by simp) : LoadsLegal t := h.kept (hw.axs hl)

/-- R79: what another record asks of the loads ON is the exclusion's to restore. -/
theorem LoadsOrdered.withRecord {s : State} (h : LoadsOrdered s) (r : BudgetRecord) :
    LoadsOrdered { s with axs.record := r } := by
  obtain ⟨hsum, hnodup, hrecord⟩ := h
  exact ⟨hsum, hnodup, hrecord⟩

/-! ### Shed and admission -/

theorem LoadsOrdered.excludeAndShed {s : State} (h : LoadsOrdered s) : LoadsOrdered (excludeAndShed s) := by
  obtain ⟨hnodup, -, hsum⟩ := h.listed.excludeAndShed
  refine ⟨hsum, hnodup, fun i => ?_⟩
  rw [(only_excludeAndShed s).auxEntry, excludeAndShed_eq, joinOrder_shedAll, loadRec_shedAll _ s (nodup_causedPlan s),
    List.mem_append]
  obtain ⟨hlisted, hjoined, hreq, hmin, hoff, hinvalid⟩ := h.record i
  split
  · rename_i hi
    have hon := on_of_mem_causedPlan i hi
    refine ⟨by simp [hi], by simp, by simp [leftOn, hreq, hon], by simp [leftOn], by simp, fun hv => ?_⟩
    rw [hinvalid hv] at hon
    cases hon
  · rename_i hi
    exact ⟨by rw [or_iff_left hi, hlisted], hjoined, hreq, hmin, hoff, hinvalid⟩

/-- R118: the exclusion leaves ON what the mode in use permits. -/
theorem onFromBattery_excludeAndShed (s : State) : OnFromBattery (excludeAndShed s) := by
  intro i hon hm
  have ho := only_excludeAndShed s
  rw [ho.record] at hm
  rw [ho.auxEntry]
  exact ((permitted_iff s i).mp (permitted_excludeAndShed hon hm)).1 hm

theorem LoadsOrdered.shedLegal {s : State} (h : LoadsOrdered s) : LoadsLegal (Machine.excludeAndShed s) :=
  loadsLegal_iff.mpr ⟨h.excludeAndShed, onFromBattery_excludeAndShed s⟩

theorem eligible_of_admitted {s : State} {i : LoadIx} (h : i ∈ admittedLoads s) :
    (loadRec s i).minOff = none ∧ permitted s i = true := by
  simpa [eligible] using eligible_of_mem_firstFit h

theorem LoadsLegal.admissionPass {s : State} (h : LoadsLegal s) : LoadsLegal (admissionPass s) := by
  have hlist := h.ordered.listed
  have ho := only_admissionPass hlist
  obtain ⟨hnodup, -, hsum⟩ := hlist.admissionPass
  refine loadsLegal_iff.mpr ⟨⟨hsum, hnodup, fun i => ?record⟩, fun i hon hm => ?battery⟩
  case record =>
    rw [ho.auxEntry, admissionPass_eq hlist.nodup, joinOrder_admitAll,
      loadRec_admitAll _ s (nodup_admittedLoads hlist.nodup), List.mem_filter, decide_eq_true_eq]
    obtain ⟨hlisted, hjoined, hreq, hmin, hoff, hinvalid⟩ := h.ordered.record i
    split
    · rename_i hi
      have hwaits := hlisted.mp (mem_joinOrder_of_admitted hi)
      have hactive : (loadRec s i).state ≠ .off := by rcases hwaits with e | e <;> simp [e]
      exact ⟨by simp [hi], by simp, by simp [hreq, hactive], by simp, fun _ => (eligible_of_admitted hi).1,
        fun hv => absurd (hinvalid hv) hactive⟩
    · rename_i hi
      exact ⟨by rw [and_iff_left hi, hlisted], hjoined, hreq, hmin, hoff, hinvalid⟩
  case battery =>
    rw [ho.record] at hm
    rw [ho.auxEntry]
    rcases (on_admissionPass hlist.nodup).mp hon with hwas | hi
    · exact h.battery i hwas hm
    · exact ((permitted_iff s i).mp (eligible_of_admitted hi).2).1 hm

theorem LoadsLegal.handReservation {s : State} (h : LoadsLegal s) (before : Nat) :
    LoadsLegal (handReservation before s) := h.written (writes_handReservation before s)

/-- R114, R109: an event that ends in a pass. -/
theorem LoadsLegal.passed {s : State} (h : LoadsLegal s) (before : Nat) :
    LoadsLegal (Machine.handReservation before (Machine.admissionPass s)) := h.admissionPass.handReservation before

/-! ### One load changed -/

/-- The state of one load that does not come ON changes: the reservation gives up its nominal current where it leaves
ON, and the other loads stay listed as they are. -/
theorem LoadsLegal.changed {s t : State} {i : LoadIx} {r : LoadRec} (h : LoadsLegal s)
    (haxs : t.axs = { s.axs with
      loads := s.axs.loads.set i r, joinOrder := t.axs.joinOrder, reservation := t.axs.reservation })
    (hrec : LoadRecordLegal (i ∈ t.axs.joinOrder) (auxEntry s i).valid r)
    (hon : r.state = .on → (loadRec s i).state = .on)
    (hnodup : t.axs.joinOrder.Nodup) (hothers : ∀ j, j ≠ i → (j ∈ t.axs.joinOrder ↔ j ∈ s.axs.joinOrder))
    (hres : t.axs.reservation =
      if (loadRec s i).state = .on ∧ r.state ≠ .on then s.axs.reservation - nominal s i else s.axs.reservation) :
    LoadsLegal t := by
  have hactive : t.axs.active = s.axs.active := (congrArg Axs.active haxs).trans rfl
  have hmode : t.axs.record = s.axs.record := (congrArg Axs.record haxs).trans rfl
  have hentry : ∀ j, auxEntry t j = auxEntry s j := fun j => by rw [auxEntry, hactive]; rfl
  have hnom : ∀ j, nominal t j = nominal s j := fun j => by rw [nominal, hentry]; rfl
  have hload : ∀ j, loadRec t j = if j = i then r else loadRec s j := fun j => by
    rw [← loadRec_setLoad, loadRec_congr]
    exact (congrArg Axs.loads haxs).trans rfl
  have hsum : s.axs.reservation = onSum s := h.1
  refine loadsLegal_iff.mpr ⟨⟨?sum, hnodup, fun j => ?record⟩, fun j hj hm => ?battery⟩
  case sum =>
    by_cases hleft : (loadRec s i).state = .on ∧ r.state ≠ .on
    · have hadd := onSum_eq_add (s := s) (t := t) hnom (List.nodup_singleton i) (by simp [hleft.1]) fun j => by
        rw [hload]
        by_cases hj : j = i <;> simp [hj, hleft.2]
      rw [if_pos hleft] at hres
      simp only [nominalSum, List.map_cons, List.map_nil, List.sum_singleton] at hadd
      omega
    · have hadd := onSum_eq_add (s := s) (t := t) hnom List.nodup_nil (by simp) fun j => by
        rw [hload]
        by_cases hj : j = i
        · subst hj
          simp only [if_true, List.not_mem_nil, not_false_iff, and_true]
          exact ⟨hon, fun hwas => by_contra fun hr => hleft ⟨hwas, hr⟩⟩
        · simp [hj]
      rw [if_neg hleft] at hres
      simp only [nominalSum, List.map_nil, List.sum_nil] at hadd
      omega
  case record =>
    rw [hload, hentry]
    by_cases hj : j = i
    · subst hj
      rwa [if_pos rfl]
    · obtain ⟨hlisted, hjoined, hreq, hmin, hoff, hinvalid⟩ := h.ordered.record j
      rw [if_neg hj]
      exact ⟨(hothers j hj).trans hlisted, hjoined, hreq, hmin, hoff, hinvalid⟩
  case battery =>
    rw [hmode] at hm
    rw [hentry]
    refine h.battery j ?_ hm
    rw [hload] at hj
    split at hj
    · rename_i e
      exact e ▸ hon hj
    · exact hj

section Changed

variable {s t : State} {i : LoadIx} {r : LoadRec} (h : LoadsLegal s)

include h

/-- R107, R120, R121, R123: another record of the load in the state in which it is. -/
theorem LoadsLegal.sameState (haxs : t.axs = { s.axs with loads := s.axs.loads.set i r })
    (hstate : r.state = (loadRec s i).state) (hjoined : r.joined = (loadRec s i).joined)
    (hreq : r.requested = true ↔ r.state ≠ .off) (hmin : r.minOn.isSome = true → r.state = .on)
    (hoff : r.state = .on → r.minOff = none) : LoadsLegal t := by
  have hjoin : t.axs.joinOrder = s.axs.joinOrder := (congrArg Axs.joinOrder haxs).trans rfl
  have hres : t.axs.reservation = s.axs.reservation := (congrArg Axs.reservation haxs).trans rfl
  obtain ⟨hlisted, hwas, -, -, -, hinvalid⟩ := h.ordered.record i
  refine h.changed (i := i) (r := r) (by rw [haxs]) ?_ (fun hon => hstate ▸ hon) ?_ (fun j _ => by rw [hjoin]) ?_
  · rw [← hstate] at hlisted hwas hinvalid
    rw [hjoin]
    exact ⟨hlisted, hjoined ▸ hwas, hreq, hmin, hoff, hinvalid⟩
  · rw [hjoin]
    exact h.ordered.nodup
  · rw [hres, if_neg]
    rintro ⟨hon, hne⟩
    exact hne (hstate.trans hon)

/-- R111, R124: an OFF or FAULT load joins the waiting list. -/
theorem LoadsLegal.joins (haxs : t.axs = { s.axs with
      loads := s.axs.loads.set i { r with state := .waiting, joined := some s.ms }
      joinOrder := s.axs.joinOrder ++ [i] })
    (hwas : (loadRec s i).state = .off ∨ (loadRec s i).state = .fault) (hv : (auxEntry s i).valid = true)
    (hreq : r.requested = true) (hmin : r.minOn = (loadRec s i).minOn) : LoadsLegal t := by
  have hjoin : t.axs.joinOrder = s.axs.joinOrder ++ [i] := (congrArg Axs.joinOrder haxs).trans rfl
  have hres : t.axs.reservation = s.axs.reservation := (congrArg Axs.reservation haxs).trans rfl
  obtain ⟨hlisted, -, -, hminOn, -, -⟩ := h.ordered.record i
  have hnot : i ∉ s.axs.joinOrder := fun hi => by
    rcases hlisted.mp hi with e | e <;> simp [e] at hwas
  have hnon : (loadRec s i).state ≠ .on := by rcases hwas with e | e <;> simp [e]
  refine h.changed (i := i) (by rw [haxs]) ?_ (by simp) ?_ (fun j hj => ?_) ?_
  · rw [hjoin]
    refine ⟨by simp, by simp, by simp [hreq], fun hm => ?_, by simp, by simp [hv]⟩
    exact absurd (hminOn (hmin ▸ hm)) hnon
  · rw [hjoin, List.nodup_append]
    refine ⟨h.ordered.nodup, List.nodup_singleton i, ?_⟩
    rintro a ha b hb rfl
    exact hnot (List.mem_singleton.mp hb ▸ ha)
  · simp [hjoin, hj]
  · simp [hres, hnon]

/-- R112, R124: a load leaves the waiting list, or FAULT, for OFF or FAULT. -/
theorem LoadsLegal.leaves (haxs : t.axs = { s.axs with
      loads := s.axs.loads.set i r
      joinOrder := s.axs.joinOrder.filter fun j => decide (j ≠ i) })
    (hwas : (loadRec s i).state ≠ .on) (hnew : r.state = .off ∨ r.state = .fault) (hjoined : r.joined = none)
    (hreq : r.requested = true ↔ r.state ≠ .off) (hmin : r.minOn = (loadRec s i).minOn)
    (hv : (auxEntry s i).valid = true) : LoadsLegal t := by
  have hjoin : t.axs.joinOrder = s.axs.joinOrder.filter fun j => decide (j ≠ i) :=
    (congrArg Axs.joinOrder haxs).trans rfl
  have hres : t.axs.reservation = s.axs.reservation := (congrArg Axs.reservation haxs).trans rfl
  obtain ⟨-, -, -, hminOn, -, -⟩ := h.ordered.record i
  have hnon : r.state ≠ .on := by rcases hnew with e | e <;> simp [e]
  have hplace : ¬ (r.state = .waiting ∨ r.state = .shed) := by rcases hnew with e | e <;> simp [e]
  refine h.changed (i := i) (r := r) (by rw [haxs]) ?_ (fun hon => absurd hon hnon) ?_ (fun j hj => ?_) ?_
  · rw [hjoin]
    refine ⟨by simp [hplace], by simp [hjoined, hplace], hreq, fun hm => ?_, fun hon => absurd hon hnon, by simp [hv]⟩
    exact absurd (hminOn (hmin ▸ hm)) hwas
  · rw [hjoin]
    exact h.ordered.nodup.filter _
  · simp [hjoin, hj]
  · simp [hres, hwas]

/-- R109, R112, R117, R124: an ON load goes OFF or FAULT, with its minimum-on timer stopped. -/
theorem LoadsLegal.leavesOn (haxs : t.axs = { s.axs with
      loads := s.axs.loads.set i r
      reservation := s.axs.reservation - nominal s i })
    (hwas : (loadRec s i).state = .on) (hnew : r.state = .off ∨ r.state = .fault)
    (hjoined : r.joined = (loadRec s i).joined) (hreq : r.requested = true ↔ r.state ≠ .off) (hmin : r.minOn = none)
    (hv : (auxEntry s i).valid = true) : LoadsLegal t := by
  have hjoin : t.axs.joinOrder = s.axs.joinOrder := (congrArg Axs.joinOrder haxs).trans rfl
  have hres : t.axs.reservation = s.axs.reservation - nominal s i := (congrArg Axs.reservation haxs).trans rfl
  obtain ⟨hlisted, hwasJoined, -, -, -, -⟩ := h.ordered.record i
  have hnon : r.state ≠ .on := by rcases hnew with e | e <;> simp [e]
  have hplace : ¬ (r.state = .waiting ∨ r.state = .shed) := by rcases hnew with e | e <;> simp [e]
  refine h.changed (i := i) (r := r) (by rw [haxs]) ?_ (fun hon => absurd hon hnon) ?_ (fun j _ => by rw [hjoin]) ?_
  · rw [hjoin]
    refine ⟨by simp [hlisted, hwas, hplace], ?_, hreq, by simp [hmin], fun hon => absurd hon hnon, by simp [hv]⟩
    rw [hjoined, hwasJoined, iff_false_right hplace]
    simp [hwas]
  · rw [hjoin]
    exact h.ordered.nodup
  · rw [hres, if_pos ⟨hwas, hnon⟩]

end Changed

end Sys2Proof.Machine
end

section
/-! Converter status (R123 to R125): what the fault flag makes of a load whose running flag has just been recorded. -/

namespace Sys2Proof.Machine

section Judged

variable {i : LoadIx} {r : LoadRec} {s : State}

theorem judgeFault_on (h : r.state = .on) : judgeFault i true (setLoad i r s) =
    placeNotice (auxStatePayload i 2 4 6 (s.axs.reservation - nominal s i))
      (placeCommand i (offCommand s (auxEntry s i) i) (setLoad i { leftOn (auxEntry s i) r with state := .fault }
        { s with axs.reservation := s.axs.reservation - nominal s i })) := by
  simp only [judgeFault, loadRec_setLoad_same, h, enterState_leaveOn]
  rfl

theorem judgeFault_listed (h : r.state = .waiting ∨ r.state = .shed) : judgeFault i true (setLoad i r s) =
    placeNotice (auxStatePayload i (loadStateCode r.state) 4 6 s.axs.reservation)
      (setLoad i { r with state := .fault, joined := none }
        { s with axs.joinOrder := s.axs.joinOrder.filter fun j => decide (j ≠ i) }) := by
  rcases h with h | h
  · simp only [judgeFault, loadRec_setLoad_same, h, enterState_leaveWaiting]
    rfl
  · simp only [judgeFault, loadRec_setLoad_same, h, enterState_leaveWaiting]
    rfl

theorem judgeFault_cleared (h : r.state = .fault) : judgeFault i false (setLoad i r s) =
    placeNotice (auxStatePayload i 4 1 7 s.axs.reservation)
      (setLoad i { r with state := .waiting, joined := some s.ms }
        { s with axs.joinOrder := s.axs.joinOrder ++ [i] }) := by
  simp only [judgeFault, loadRec_setLoad_same, h, enterState_joinWaiting]
  rfl

theorem judgeFault_unchanged {faulty : Bool}
    (hraised : ¬ (faulty = true ∧ (r.state = .on ∨ r.state = .waiting ∨ r.state = .shed)))
    (hcleared : ¬ (faulty = false ∧ r.state = .fault)) : judgeFault i faulty (setLoad i r s) = setLoad i r s := by
  unfold judgeFault
  rw [loadRec_setLoad_same]
  split
  · exact absurd ⟨rfl, .inl (by assumption)⟩ hraised
  · exact absurd ⟨rfl, .inr (.inl (by assumption))⟩ hraised
  · exact absurd ⟨rfl, .inr (.inr (by assumption))⟩ hraised
  · exact absurd ⟨rfl, by assumption⟩ hcleared
  · rfl

end Judged

theorem faultPasses_iff (faulty : Bool) (old : LoadState) :
    faultPasses faulty old = true ↔ (faulty = true ∧ old = .on) ∨ (faulty = false ∧ old = .fault) := by
  simp [faultPasses]

theorem walked_judgeFault (i : LoadIx) (faulty : Bool) (s : State) :
    ∃ commands notices, Walked s (judgeFault i faulty s) commands notices := by
  unfold judgeFault
  split
  · exact ⟨_, _, (walked_leaveOn i _ s).trans (walked_enterState i _ _ _) (fun _ _ hx => nomatch hx)⟩
  · exact ⟨_, _, (walked_leaveWaiting i s).trans_silent (walked_enterState i _ _ _)⟩
  · exact ⟨_, _, (walked_leaveWaiting i s).trans_silent (walked_enterState i _ _ _)⟩
  · exact ⟨_, _, (walked_joinWaiting i s).trans_silent (walked_enterState i _ _ _)⟩
  · exact ⟨_, _, .refl s⟩

/-- R123: the running flag is recorded. -/
def runningRec (status : Byte) (r : LoadRec) : LoadRec := { r with running := some (status.getLsbD 0) }

/-- R124: the state that the fault flag of an accepted status leaves, on which R125 is judged. -/
def faultJudged (i : LoadIx) (status : Byte) (s : State) : State :=
  judgeFault i (status.getLsbD 1) (setLoad i (runningRec status (loadRec s i)) s)

/-- R125: the state in which the admission pass, if one is due, runs. -/
def statusJudged (i : LoadIx) (status : Byte) (s : State) : State :=
  resendOff i (status.getLsbD 0) (faultJudged i status s)

theorem takeStatus_eq (i : LoadIx) (status : Byte) (s : State) :
    takeStatus i status s = handReservation s.axs.reservation
      (if faultPasses (status.getLsbD 1) (loadRec s i).state then admissionPass (statusJudged i status s)
        else statusJudged i status s) := rfl

/-- AXS's own parts alone change, and nothing is handed over. -/
theorem only_faultJudged (i : LoadIx) (status : Byte) (s : State) :
    OnlyAux s (faultJudged i status s) ∧ (faultJudged i status s).handed = s.handed := by
  obtain ⟨_, _, hw⟩ := walked_judgeFault i (status.getLsbD 1) (setLoad i (runningRec status (loadRec s i)) s)
  exact ⟨(walked_setLoad i _ s).only.trans hw.only, hw.handed⟩

theorem statusJudged_eq (i : LoadIx) (status : Byte) (s : State) : statusJudged i status s =
    if status.getLsbD 0 = true ∧ (loadRec (faultJudged i status s) i).state ≠ .on then
      placeCommand i (offCommand s (auxEntry s i) i) (faultJudged i status s)
    else faultJudged i status s := by
  obtain ⟨honly, -⟩ := only_faultJudged i status s
  obtain ⟨hresent, hnot⟩ := resendOff_spec i (status.getLsbD 0) (faultJudged i status s)
  rw [statusJudged]
  split
  · rename_i h
    rw [hresent h, ← honly.offCommand, ← honly.auxEntry]
    rfl
  · rename_i h
    exact hnot h

theorem statusJudged_axs (i : LoadIx) (status : Byte) (s : State) :
    (statusJudged i status s).axs = (faultJudged i status s).axs := by
  rw [statusJudged_eq]
  split <;> rfl

theorem statusJudged_handed (i : LoadIx) (status : Byte) (s : State) : (statusJudged i status s).handed = s.handed := by
  obtain ⟨-, hhanded⟩ := only_faultJudged i status s
  rw [statusJudged_eq]
  split
  · exact hhanded
  · exact hhanded

end Sys2Proof.Machine
end

section
/-! The loads stay legal under every step (R107 to R109, R113, R118). -/

namespace Sys2Proof.Machine

/-! ### The requested load -/

theorem validLoad_valid {s : State} {id : Byte} {i : LoadIx} (h : validLoad s id = some i) :
    (auxEntry s i).valid = true := by
  unfold validLoad at h
  split at h
  · cases h
  · split at h
    · rename_i hv
      exact Option.some.inj h ▸ hv
    · cases h

theorem judgeAuxRequest_valid {f : Frame} {s : State} {i : LoadIx} {wanted : Bool}
    (h : judgeAuxRequest f s = some (i, wanted)) : (auxEntry s i).valid = true := by
  unfold judgeAuxRequest at h
  split at h
  · cases h
  · split at h
    · cases h
    · rename_i hload
      split at h
      · cases h
        exact validLoad_valid hload
      · split at h
        · cases h
          exact validLoad_valid hload
        · cases h

section Requested

variable {s : State} {i : LoadIx} (h : LoadsLegal s) (hv : (auxEntry s i).valid = true)

include h hv

theorem LoadsLegal.requestJoined (hs : (loadRec s i).state = .off) : LoadsLegal (requestJoined i s) :=
  h.joins (i := i) (r := { loadRec s i with requested := true }) (by rw [Machine.requestJoined, placeNotice_axs]; rfl)
    (.inl hs) hv rfl rfl

theorem LoadsLegal.requestLeft (hs : (loadRec s i).state = .on) : LoadsLegal (requestLeft i s) :=
  h.leavesOn (i := i) (r := { leftOn (auxEntry s i) (loadRec s i) with state := .off, requested := false })
    (by rw [Machine.requestLeft, placeNotice_axs]; rfl) hs (.inl rfl) rfl (by simp) rfl hv

theorem LoadsLegal.requestOn : LoadsLegal (requestOn i s) := by
  by_cases hs : (loadRec s i).state = .off
  · rw [requestOn_off hs]
    exact (h.requestJoined hv hs).passed _
  · obtain ⟨-, -, -, hmin, hoff, -⟩ := h.ordered.record i
    rw [requestOn_marked hs]
    exact h.sameState (i := i) (r := { loadRec s i with requested := true }) rfl rfl rfl (by simp [hs]) hmin hoff

theorem LoadsLegal.requestOff : LoadsLegal (requestOff i s) := by
  obtain ⟨-, -, -, hmin, hoff, -⟩ := h.ordered.record i
  cases hs : (loadRec s i).state with
  | on =>
    rw [requestOff_on hs]
    exact (h.requestLeft hv hs).passed _
  | waiting | shed =>
    rw [requestOff_listed (by simp [hs])]
    exact h.leaves (i := i) (r := { loadRec s i with state := .off, requested := false, joined := none })
      (by rw [placeNotice_axs]; rfl) (by simp [hs]) (.inl rfl) rfl (by simp) rfl hv
  | fault =>
    have hplace := placeLegal_of_loadsLegal h i
    have hnone := hplace.joined_none (by simp [hs]) (by simp [hs])
    have hsame : s.axs.joinOrder.filter (fun j => decide (j ≠ i)) = s.axs.joinOrder := by
      simpa using hplace.filter_joinOrder (by simp [hs]) (by simp [hs])
    rw [requestOff_fault hs]
    exact h.leaves (i := i) (r := { loadRec s i with state := .off, requested := false })
      (by rw [placeNotice_axs, hsame]; rfl) (by simp [hs]) (.inl rfl) hnone (by simp) rfl hv
  | off =>
    rw [requestOff_off hs]
    exact h.sameState (i := i) (r := { loadRec s i with requested := false }) rfl rfl rfl (by simp [hs]) hmin hoff

/-! ### Converter status (R123 to R125) -/

theorem LoadsLegal.faultJudged (status : Byte) : LoadsLegal (faultJudged i status s) := by
  obtain ⟨-, -, hreq, hmin, hoff, -⟩ := h.ordered.record i
  rw [Machine.faultJudged]
  generalize hr : runningRec status (loadRec s i) = r
  have hstate : r.state = (loadRec s i).state := by rw [← hr]; rfl
  have hjoined : r.joined = (loadRec s i).joined := by rw [← hr]; rfl
  have hminOn : r.minOn = (loadRec s i).minOn := by rw [← hr]; rfl
  have hminOff : r.minOff = (loadRec s i).minOff := by rw [← hr]; rfl
  have hreqR : r.requested = true ↔ r.state ≠ .off := by rw [← hr]; exact hreq
  have hmarked : LoadsLegal (setLoad i r s) :=
    h.sameState (i := i) rfl hstate hjoined hreqR (by rwa [hminOn, hstate]) (by rwa [hstate, hminOff])
  cases hf : status.getLsbD 1 with
  | true =>
    cases hs : r.state with
    | on =>
      rw [judgeFault_on hs]
      exact h.leavesOn (i := i) (r := { leftOn (auxEntry s i) r with state := .fault })
        (by rw [placeNotice_axs]; rfl) (hstate ▸ hs) (.inr rfl) hjoined (by simp [leftOn, hreqR, hs]) rfl hv
    | waiting | shed =>
      rw [judgeFault_listed (by simp [hs])]
      exact h.leaves (i := i) (r := { r with state := .fault, joined := none }) (by rw [placeNotice_axs]; rfl)
        (by simp [← hstate, hs]) (.inr rfl) rfl (by simp [hreqR, hs]) hminOn hv
    | fault | off =>
      rw [judgeFault_unchanged (by simp [hs]) (by simp)]
      exact hmarked
  | false =>
    by_cases hs : r.state = .fault
    · rw [judgeFault_cleared hs]
      exact h.joins (i := i) (r := r) (by rw [placeNotice_axs]; rfl) (.inr (hstate ▸ hs)) hv (hreqR.mpr (by simp [hs]))
        hminOn
    · rw [judgeFault_unchanged (by simp) (by simp [hs])]
      exact hmarked

theorem LoadsLegal.statusJudged (status : Byte) : LoadsLegal (statusJudged i status s) :=
  (h.faultJudged hv status).kept (by rw [statusJudged_axs])

theorem LoadsLegal.takeStatus (status : Byte) : LoadsLegal (takeStatus i status s) := by
  have hjudged := h.statusJudged hv status
  rw [takeStatus_eq]
  split
  · exact hjudged.passed _
  · exact hjudged.handReservation _

end Requested

/-! ### Records, timers and parameters (R119 to R122) -/

theorem LoadsLegal.takeRecordAxs {s : State} (h : LoadsLegal s) (r : BudgetRecord) :
    LoadsLegal (takeRecordAxs r s) := by
  have hshed := (h.ordered.withRecord r).shedLegal
  unfold Machine.takeRecordAxs
  dsimp only
  split
  · exact hshed.passed _
  · exact hshed.handReservation _

theorem LoadsLegal.reviewLoads {s : State} (h : LoadsLegal s) : LoadsLegal (reviewLoads s) :=
  h.ordered.shedLegal.passed _

theorem LoadsLegal.minOnStopped {s : State} (h : LoadsLegal s) (i : LoadIx) :
    LoadsLegal (setLoad i { loadRec s i with minOn := none } s) := by
  obtain ⟨-, -, hreq, -, hoff, -⟩ := h.ordered.record i
  exact h.sameState (i := i) (r := { loadRec s i with minOn := none }) rfl rfl rfl hreq (by simp) hoff

theorem LoadsLegal.minOffStopped {s : State} (h : LoadsLegal s) (i : LoadIx) :
    LoadsLegal (setLoad i { loadRec s i with minOff := none } s) := by
  obtain ⟨-, -, hreq, hmin, -, -⟩ := h.ordered.record i
  exact h.sameState (i := i) (r := { loadRec s i with minOff := none }) rfl rfl rfl hreq hmin fun _ => rfl

theorem loadRec_tick (s : State) (i : LoadIx) : loadRec (tick s) i = (loadRec s i).tick := by simp [loadRec, tick]

/-- A millisecond stops and starts no minimum timer. -/
theorem LoadsLegal.tick {s : State} (h : LoadsLegal s) : LoadsLegal (tick s) := by
  obtain ⟨⟨hsum, hnodup, hrecord⟩, hbattery⟩ := loadsLegal_iff.mp h
  have hon : ∀ i, (loadRec (Machine.tick s) i).state = (loadRec s i).state := fun i => by rw [loadRec_tick]; rfl
  have hsame : onSum (Machine.tick s) = onSum s := by
    simp only [onSum, hon]
    rfl
  refine loadsLegal_iff.mpr ⟨⟨hsum.trans hsame.symm, hnodup, fun i => ?_⟩, fun i hi => hbattery i (hon i ▸ hi)⟩
  obtain ⟨hlisted, hjoined, hreq, hmin, hoff, hinvalid⟩ := hrecord i
  rw [loadRec_tick]
  exact ⟨hlisted, hjoined, hreq, by simpa [LoadRec.tick, Timer.tick] using hmin,
    by simpa [LoadRec.tick, Timer.tick] using hoff, hinvalid⟩

/-! ### The aux table (R128) -/

/-- R128, step 2: a load whose entry has become invalid is OFF, off the list, with its minimum-on timer stopped. -/
theorem LoadRecordLegal.retired {listed : Prop} {valid : Bool} {r : LoadRec} (h : LoadRecordLegal listed valid r)
    (old : AuxEntry) : LoadRecordLegal False false (retiredRec old r) := by
  have hstopped : (retiredRec old r).minOn = none := by
    unfold retiredRec
    split
    · rfl
    · rename_i hs
      exact Option.not_isSome_iff_eq_none.mp fun hm => hs (h.minOn hm)
  exact ⟨by simp [retiredRec], by simp [retiredRec], by simp [retiredRec], by simp [hstopped], by simp [retiredRec],
    fun _ => rfl⟩

/-- R128, steps 2 and 3: whatever the loads' new entries say, the loads are in order once those with invalid ones are
OFF and R is summed afresh. -/
theorem RetiredAll.ordered {old : AuxTable} {s t : State} (h : RetiredAll old (invalidLoads s) s t)
    (hn : s.axs.joinOrder.Nodup) {valid : LoadIx → Bool}
    (hrec : ∀ i, LoadRecordLegal (i ∈ s.axs.joinOrder) (valid i) (loadRec s i)) :
    LoadsOrdered (setReservation (onSum t) t) := by
  obtain ⟨hnodup, -, hsum⟩ := h.loadsListed (fun i => ⟨(hrec i).listed.mp, (hrec i).joined.mp⟩) hn
  generalize onSum t = sum at hnodup hsum ⊢
  refine ⟨hsum, hnodup, fun i => ?_⟩
  rw [(h.walked.only.setReservation sum).auxEntry, loadRec_setReservation, setReservation_joinOrder, h.record, h.joinOrder,
    List.mem_filter, decide_eq_true_eq]
  cases hv : (auxEntry s i).valid with
  | false => simpa [mem_invalidLoads, hv] using (hrec i).retired old[i]
  | true =>
    obtain ⟨hlisted, hjoined, hreq, hmin, hoff, -⟩ := hrec i
    simpa [mem_invalidLoads, hv] using LoadRecordLegal.mk hlisted hjoined hreq hmin hoff (valid := true) (by simp)

theorem LoadsLegal.retired {s : State} (h : LoadsLegal s) (new : AuxTable) : LoadsOrdered (retired new s) := by
  have hordered := h.ordered
  have hplace := placeLegal_of_loadsLegal h
  have hall := retiredAll_retiredLoads s.axs.active (s := { s with axs.active := new }) hplace
  exact hall.ordered hordered.nodup (valid := fun i => (auxEntry s i).valid) hordered.record

theorem LoadsLegal.swapAux {s : State} (h : LoadsLegal s) (new : AuxTable) : LoadsLegal (swapAux new s) := by
  rw [swapAux_eq]
  exact (h.retired new).shedLegal.passed _

theorem LoadsLegal.swapTable {s : State} (h : LoadsLegal s) (t : TableId) : LoadsLegal (swapTable t s).1 := by
  cases t with
  | sections => exact h.written (writes_swapSection _ s)
  | aux =>
    simp only [Machine.swapTable]
    exact h.swapAux _
  | profile => exact h.written (.of_frame rfl : Writes [.poles] s _)
  | parameter => exact h.written (.of_frame rfl : Writes [.settings] s _)
  | classMap => exact h.written (.of_frame rfl : Writes [.intake] s _)

theorem LoadsLegal.commitTable {s : State} (h : LoadsLegal s) (source : Node) (t : TableId) :
    LoadsLegal (commitTable source t s).1 := by
  unfold Machine.commitTable
  split
  · split
    · exact h.written (writes_restartOpenTimer s)
    · exact (h.written (writes_closeTable s)).swapTable t
  · exact h

theorem LoadsLegal.tableBody {s : State} (h : LoadsLegal s) (args : List Byte) {act : TableId → State → State × Reply}
    (hact : ∀ t, LoadsLegal (act t s).1) : LoadsLegal (tableBody args act s).1 := by
  unfold Machine.tableBody
  split
  · split
    · exact h
    · exact hact _
  · exact h

/-- A request keeps the loads legal where its body does. -/
theorem LoadsLegal.runRequest {s : State} (h : LoadsLegal s) (code : ReqCode) (q : Request)
    {body : State → State × Reply} (hbody : ∀ s1, LoadsLegal s1 → LoadsLegal (body s1).1) :
    LoadsLegal (runRequest code q body s) := by
  have hanswer : ∀ {s1} reply, LoadsLegal s1 → LoadsLegal (respond q.source (reqCodeNum code) reply s1) :=
    fun reply h1 => h1.written (writes_respond _ _ reply _)
  rcases runRequest_spec code q body s with ⟨-, e⟩ | ⟨s1, h1, ⟨-, e⟩ | ⟨-, e⟩⟩ <;> rw [e]
  · exact h
  · exact hanswer _ (h.written (writes_takeRequest h1))
  · exact hanswer _ (hbody s1 (h.written (writes_takeRequest h1)))

/-! ### The two resets -/

/-- R130: at RESTART every load is OFF, on no list, with nothing reserved. -/
theorem loadsLegal_restartValues (s : State) : LoadsLegal (restartValues s) := by
  have hrec : ∀ i, loadRec (restartValues s) i = restartLoad (auxEntry s i) (loadRec s i) := fun i =>
    Vector.getElem_zipWith i.isLt
  have hstate : ∀ i, (loadRec (restartValues s) i).state = .off := fun i => by rw [hrec]; rfl
  have hjoin : (restartValues s).axs.joinOrder = [] := rfl
  have hsum : onSum (restartValues s) = 0 := by simp [onSum, hstate]
  refine ⟨hsum.symm, List.nodup_nil, fun i => ?_⟩
  simp [LoadLegal, hjoin, hrec, restartLoad, LoadRec.reset]

theorem loadsLegal_restartAll (s : State) : LoadsLegal (restartAll s) := by
  have hcut : ∀ t, Writes [.traction, .cut, .lanes] t (requestCut .restart t) := fun _ => .of_frame rfl
  have hnoticed := (loadsLegal_restartValues s).written (writes_placeNotice [8] _)
  exact (hnoticed.written (hcut _)).written (writes_commandAllOff _)

theorem loadsLegal_reset : LoadsLegal State.reset := by
  obtain ⟨-, -, -, -, -, hloads, -⟩ := resetIsLegal
  exact hloads

/-! ### Every step -/

/-- Every command keeps the loads legal: those that write them by what they write, the others by their footprint. -/
theorem exec_keeps_loads (c : Instr) (s t : State) (h : LoadsLegal s) (hx : exec c s = .next t) : LoadsLegal t := by
  by_cases hc : .loads ∉ footprint c
  · exact h.written (exec_writes c s t hx) hc
  · have htaken : LoadsLegal (taken c s) := h
    cases c <;> simp [footprint, auxPieces, commitPieces, abandonPieces] at hc <;>
      obtain rfl : _ = t := Host.Outcome.next.inj hx
    case powerOnReset => exact loadsLegal_reset.kept rfl
    case upstreamTxEnd =>
      split
      · exact h
      · dsimp only
        split; exacts [loadsLegal_restartAll _, h]
    case auxRequestOn f =>
      split
      · exact htaken.written (writes_errorU _ _)
      · rename_i hj
        exact htaken.requestOn (judgeAuxRequest_valid hj)
      · exact htaken
    case auxRequestOff f =>
      split
      · exact htaken.written (writes_errorU _ _)
      · rename_i hj
        exact htaken.requestOff (judgeAuxRequest_valid hj)
      · exact htaken
    case auxStatus f =>
      split
      · exact htaken.written (writes_errorD _ _)
      · split
        · exact htaken.written (writes_errorD _ _)
        · rename_i hl
          split; exacts [htaken.takeStatus (validLoad_valid hl) _, htaken]
    case budgetRecordAtAxs r => exact htaken.takeRecordAxs r
    case minOnExpiry i => exact h.minOnStopped i
    case minOffExpiry i => split; exacts [h, (h.minOffStopped i).passed _]
    case axsParameterCommit => exact htaken.reviewLoads
    case tableCommit q =>
      exact h.runRequest _ _ fun s1 h1 => h1.tableBody _ fun t => h1.commitTable q.source t

/-- Settles O57: AXS's own events and the two resets keep the loads legal, and no other command touches them. -/
theorem loadsStayLegal : Obligations.LoadsStayLegal := by
  intro s t h hs
  rcases step_cases s t hs with ⟨c, rest, -, hx⟩ | ⟨c, -, -, hx⟩ | ⟨-, -, rfl⟩
  · exact exec_keeps_loads c { s with pending := rest } t h hx
  · exact exec_keeps_loads c s t h hx
  · exact h.tick

end Sys2Proof.Machine
end

section
/-! Timers, requests, records and converter status, case by case (R109 to R125). -/

namespace Sys2Proof.Machine

/-! ### The minimum timers (R120, R121) -/

theorem exec_minOffExpiry {i : LoadIx} {n : Nat} {s : State} (h : (loadRec s i).minOff = some n) :
    exec (.minOffExpiry i) s = .next (handReservation s.axs.reservation
      (admissionPass (setLoad i { loadRec s i with minOff := none } s))) := by
  simp only [exec, execMinOffExpiry, h]

/-- Settles O28: each expiry is its equation, and the pass runs on a waiting list without repetition. -/
theorem minimumTimers : Obligations.MinimumTimers := by
  refine ⟨fun i n s _ => rfl, fun i n s hn h => ⟨_, exec_minOffExpiry hn, ?_⟩⟩
  have hstopped := h.minOffStopped i
  exact passedAndHanded s hstopped.ordered.nodup

/-! ### Requests (R110 to R112) -/

theorem errorU_badField (s : State) :
    errorU .badField s = { s with upi.err := tookCode s.upi.err .badField 4 } := by
  rw [errorU, takeCode_spec]
  rfl

theorem errorD_badField (s : State) :
    errorD .badField s = { s with dec.err := tookCode s.dec.err .badField 4 } := by
  rw [errorD, takeCode_spec]
  rfl

/-- R110: neither command acts on a frame that is ignored. -/
theorem exec_auxRequest_ignored {f : Frame} {c : Instr} {s : State} (hc : c = .auxRequestOn f ∨ c = .auxRequestOff f)
    (h : IgnoredRequest f s) : exec c s = .next { s with
      handed := s.handed.erase c
      upi.err := tookCode s.upi.err .badField 4 } := by
  rcases hc with rfl | rfl
  · have hjudged : judgeAuxRequest f (taken (.auxRequestOn f) s) = none := judgeAuxRequest_ignored h
    simp only [exec, execAuxRequestOn, hjudged, errorU_badField]
    rfl
  · have hjudged : judgeAuxRequest f (taken (.auxRequestOff f) s) = none := judgeAuxRequest_ignored h
    simp only [exec, execAuxRequestOff, hjudged, errorU_badField]
    rfl

section Requested

variable {f : Frame} {id : Byte} {i : LoadIx} {s : State} (hi : loadOf id = some i) (hv : (auxEntry s i).valid = true)

include hi hv

theorem exec_auxRequestOn (hf : f.payload = [id, 1]) :
    exec (.auxRequestOn f) s = .next (requestOn i (taken (.auxRequestOn f) s)) := by
  have hjudged : judgeAuxRequest f (taken (.auxRequestOn f) s) = some (i, true) := judgeAuxRequest_on hf hi hv
  simp only [exec, execAuxRequestOn, hjudged]

theorem exec_auxRequestOff (hf : f.payload = [id, 0]) :
    exec (.auxRequestOff f) s = .next (requestOff i (taken (.auxRequestOff f) s)) := by
  have hjudged : judgeAuxRequest f (taken (.auxRequestOff f) s) = some (i, false) := judgeAuxRequest_off hf hi hv
  simp only [exec, execAuxRequestOff, hjudged]

end Requested

/-- Settles O29: the frames that are ignored, and the two cases of an ON request. -/
theorem auxRequestOn : Obligations.AuxRequestOn := by
  refine ⟨fun f c s hc h => exec_auxRequest_ignored hc h, fun f id i s hf hi hv h => ?_⟩
  have htaken : LoadsLegal (taken (.auxRequestOn f) s) := h
  refine ⟨fun hs => ?marked, fun hs => ?joins⟩ <;> rw [exec_auxRequestOn hi hv hf]
  case marked =>
    rw [requestOn_marked (s := taken (.auxRequestOn f) s) hs]
    rfl
  case joins =>
    refine ⟨_, congrArg Host.Outcome.next (requestOn_off (s := taken (.auxRequestOn f) s) hs), ?_⟩
    have hjoined := htaken.requestJoined (i := i) hv hs
    exact passedAndHanded s hjoined.ordered.nodup

/-- Settles O30: one case for each state of the load. -/
theorem auxRequestOff : Obligations.AuxRequestOff := by
  intro f id i s hf hi hv h
  have htaken : LoadsLegal (taken (.auxRequestOff f) s) := h
  refine ⟨fun hs => ?on, fun hs => ?listed, fun hs => ?fault, fun hs => ?off⟩ <;> rw [exec_auxRequestOff hi hv hf]
  case on =>
    refine ⟨_, congrArg Host.Outcome.next (requestOff_on (s := taken (.auxRequestOff f) s) hs), ?_⟩
    have hleft := htaken.requestLeft (i := i) hv hs
    exact passedAndHanded s hleft.ordered.nodup
  case listed => exact congrArg Host.Outcome.next (requestOff_listed (s := taken (.auxRequestOff f) s) hs)
  case fault => exact congrArg Host.Outcome.next (requestOff_fault (s := taken (.auxRequestOff f) s) hs)
  case off => exact congrArg Host.Outcome.next (requestOff_off (s := taken (.auxRequestOff f) s) hs)

/-! ### Budget records and parameters (R119, R122) -/

/-- Exclusion and shed alone leave the loads within the record in use. -/
theorem loadsWithinRecord_shed (s : State) : LoadsWithinRecord (excludeAndShed s) := by
  have ho := only_excludeAndShed s
  refine ⟨?_, fun i hi => (permitted_iff _ i).mp ?_⟩
  · simp only [ho.record, ho.priority]
    exact reservation_excludeAndShed s
  · rw [ho.permitted]
    by_cases hm : s.axs.record.mode = .wire
    · exact permitted_of_wire hm i
    · exact permitted_excludeAndShed hi hm

theorem LoadsWithinRecord.handReservation {s : State} (h : LoadsWithinRecord s) (before : Nat) :
    LoadsWithinRecord (handReservation before s) := by
  obtain ⟨events, e⟩ := handReservation_frame before s
  rw [e]
  exact h

/-- R117: the waiting list has grown exactly where the plan is not empty. -/
theorem joinOrder_grows_iff (s : State) :
    s.axs.joinOrder.length < (excludeAndShed s).axs.joinOrder.length ↔ shedPlan s ≠ [] := by
  obtain ⟨-, hjoin, -⟩ := excludeAndShed_shedBy s
  rw [hjoin, List.length_append, List.length_map, ← List.length_pos_iff]
  omega

theorem widens_iff (old new : SupplyMode) :
    widens old new = true ↔ (old ≠ .wire ∧ new = .wire) ∨ (old = .dewired ∧ new ≠ .dewired) := by
  simp [widens, fromBattery]

/-- R119: whether a record taken into use asks for an admission pass. -/
theorem takeRecordAxs_eq (r : BudgetRecord) (s : State) :
    let s1 := { s with axs.record := r }
    takeRecordAxs r s = handReservation s.axs.reservation
      (if shedPlan s1 ≠ [] ∨ s.axs.record.auxCap < r.auxCap ∨
          ((s.axs.record.mode ≠ .wire ∧ r.mode = .wire) ∨ (s.axs.record.mode = .dewired ∧ r.mode ≠ .dewired)) then
        admissionPass (excludeAndShed s1) else excludeAndShed s1) := by
  intro s1
  simp only [takeRecordAxs, Bool.or_eq_true, decide_eq_true_eq, widens_iff, or_assoc]
  simp only [← joinOrder_grows_iff, s1]

/-- Settles O31: the shed is by its plan, and with or without a pass after it the loads are within the record. -/
theorem loadsReviewed : Obligations.LoadsReviewed := by
  refine ⟨fun r s h => ?record, fun s h => ?commit⟩
  case record =>
    intro s1 widened
    have htaken : LoadsLegal (taken (.budgetRecordAtAxs r) s) := h
    have hordered : LoadsOrdered s1 := htaken.ordered.withRecord r
    have hlisted := hordered.listed
    have hshed := excludeAndShed_shedBy s1
    obtain ⟨-, -, -, -, -, -, -, hhanded⟩ := id hshed
    obtain ⟨hpassed, hhands⟩ := ended_spec s hlisted.excludeAndShed.nodup
      (shedPlan s1 ≠ [] ∨ s.axs.record.auxCap < r.auxCap ∨ widened)
    rw [hhanded] at hhands
    refine ⟨_, _, congrArg Host.Outcome.next (takeRecordAxs_eq r (taken (.budgetRecordAtAxs r) s)), hshed, hpassed,
      hhands, LoadsWithinRecord.handReservation ?_ _⟩
    split
    · exact loadsWithinRecord_review hlisted
    · exact loadsWithinRecord_shed s1
  case commit =>
    intro s1
    have hlegal : LoadsLegal s1 := h
    have hlisted := hlegal.ordered.listed
    have hshed := excludeAndShed_shedBy s1
    obtain ⟨-, -, -, -, -, -, -, hhanded⟩ := id hshed
    obtain ⟨hpassed, hhands⟩ := passedAndHanded s hlisted.excludeAndShed.nodup
    rw [hhanded] at hhands
    exact ⟨_, _, rfl, hshed, hpassed, hhands, (loadsWithinRecord_review hlisted).handReservation _⟩

/-! ### Converter status (R123 to R125) -/

/-- R123: the statuses that are ignored. -/
def IgnoredStatus (f : Frame) (s : State) : Prop :=
  f.payload.length ≠ 2 ∨ ∃ id status, f.payload = [id, status] ∧ ∀ i, loadOf id = some i → (auxEntry s i).valid = false

theorem exec_auxStatus_ignored {f : Frame} {s : State} (h : IgnoredStatus f s) : exec (.auxStatus f) s = .next { s with
    handed := s.handed.erase (.auxStatus f)
    dec.err := tookCode s.dec.err .badField 4 } := by
  rcases h with hlen | ⟨id, status, hf, hbad⟩
  · simp only [exec, execAuxStatus, auxPayload_none hlen, errorD_badField]
    rfl
  · have hload : validLoad (taken (.auxStatus f) s) id = none := validLoad_none hbad
    simp only [exec, execAuxStatus, hf, auxPayload, hload, errorD_badField]
    rfl

theorem exec_auxStatus {f : Frame} {id status : Byte} {i : LoadIx} {s : State} (hf : f.payload = [id, status])
    (hi : loadOf id = some i) (hv : (auxEntry s i).valid = true) : exec (.auxStatus f) s = .next
      (if f.src = (auxEntry s i).node.setWidth 6 then takeStatus i status (taken (.auxStatus f) s)
        else taken (.auxStatus f) s) := by
  have hload : validLoad (taken (.auxStatus f) s) id = some i := validLoad_some hi hv
  simp only [exec, execAuxStatus, hf, auxPayload, hload]
  rfl

/-- Settles O32: the fault flag decides the state that R125 is judged on, and R125 the one that the pass runs on. -/
theorem auxStatusJudged : Obligations.AuxStatusJudged := by
  refine ⟨fun f s h => exec_auxStatus_ignored h, fun f id status i s hf hi hv h => ?_⟩
  intro e s1 r left
  have hlegal : LoadsLegal s1 := h
  have hjudged := hlegal.statusJudged (i := i) hv status
  refine ⟨fun hsrc => ?other, fun hsrc => ⟨faultJudged i status s1, takeStatus i status s1, ?exec, ?on, ?listed,
    ?cleared, ?unchanged, ?ended⟩⟩
  case other => rw [exec_auxStatus hf hi hv, if_neg hsrc]; rfl
  case exec => rw [exec_auxStatus hf hi hv, if_pos hsrc]; rfl
  case on =>
    intro hfault hs
    rw [faultJudged, hfault]
    exact judgeFault_on hs
  case listed =>
    intro hfault hs
    rw [faultJudged, hfault]
    exact judgeFault_listed hs
  case cleared =>
    intro hfault hs
    rw [faultJudged, hfault]
    exact judgeFault_cleared hs
  case unchanged => exact fun hraised hcleared => judgeFault_unchanged hraised hcleared
  case ended =>
    intro s3
    have hs3 : statusJudged i status s1 = s3 := statusJudged_eq i status s1
    have hend : takeStatus i status s1 = handReservation s.axs.reservation
        (if (status.getLsbD 1 = true ∧ r.state = .on) ∨ (status.getLsbD 1 = false ∧ r.state = .fault) then
          admissionPass s3 else s3) := by
      simp only [takeStatus_eq, faultPasses_iff, hs3]
      rfl
    rw [hs3] at hjudged
    have hended := ended_spec s hjudged.ordered.nodup
      ((status.getLsbD 1 = true ∧ r.state = .on) ∨ (status.getLsbD 1 = false ∧ r.state = .fault))
    have hhanded : s3.handed = s1.handed := hs3 ▸ statusJudged_handed i status s1
    rw [hend, ← hhanded]
    exact hended

end Sys2Proof.Machine
end

section
/-! The alarm list stays legal under every step: one record for each key, its flag and its count (R132, R133). -/

namespace Sys2Proof.Machine

/-! ### Legal lists (R132, R133) -/

/-- What `AlarmsLegal` asks of one record. -/
def AlarmRecLegal (r : AlarmRec) : Prop := r.acted.isSome = r.key.isPoleDrop ∧ 1 ≤ r.repeats ∧ r.repeats ≤ 255

/-- `AlarmsLegal`, said of the list. -/
def AlarmListLegal (alm : List AlarmRec) : Prop := (alm.map AlarmRec.key).Nodup ∧ ∀ r ∈ alm, AlarmRecLegal r

theorem alarmsLegal_iff (s : State) : AlarmsLegal s ↔ AlarmListLegal s.alm := .rfl

/-- R132: no other record has a record's key. -/
theorem other_keys_of_nodup {alm pre post : List AlarmRec} {r : AlarmRec} (h : (alm.map AlarmRec.key).Nodup)
    (hs : alm = pre ++ r :: post) : ∀ x ∈ pre ++ post, x.key ≠ r.key := by
  rw [hs, List.map_append, List.map_cons, List.nodup_middle, ← List.map_append, List.nodup_cons] at h
  exact fun x hx he => h.1 (he ▸ List.mem_map_of_mem hx)

theorem AlarmListLegal.sublist {l m : List AlarmRec} (h : AlarmListLegal m) (hl : l.Sublist m) : AlarmListLegal l :=
  ⟨h.1.sublist (hl.map _), fun r hr => h.2 r (hl.subset hr)⟩

theorem AlarmListLegal.concat {l : List AlarmRec} {r : AlarmRec} (h : AlarmListLegal l) (hr : AlarmRecLegal r)
    (hk : ∀ x ∈ l, x.key ≠ r.key) : AlarmListLegal (l ++ [r]) := by
  obtain ⟨hnodup, hlegal⟩ := h
  refine ⟨?_, by simpa [or_imp, forall_and, hr] using hlegal⟩
  rw [List.map_append, List.map_singleton, List.nodup_append_comm, List.singleton_append, List.nodup_cons]
  refine ⟨fun hm => ?_, hnodup⟩
  obtain ⟨x, hx, he⟩ := List.mem_map.mp hm
  exact hk x hx he

/-- R134: a record set in the place of its key's record leaves the keys as they are. -/
theorem setAlarm_keys (r : AlarmRec) (l : List AlarmRec) : (setAlarm r l).map AlarmRec.key = l.map AlarmRec.key := by
  rw [setAlarm, List.map_map]
  refine List.map_congr_left fun x _ => ?_
  by_cases hx : x.key = r.key <;> simp [hx]

theorem AlarmListLegal.setAlarm {l : List AlarmRec} {r : AlarmRec} (h : AlarmListLegal l) (hr : AlarmRecLegal r) :
    AlarmListLegal (setAlarm r l) := by
  obtain ⟨hnodup, hlegal⟩ := h
  refine ⟨by rwa [setAlarm_keys], fun y hy => ?_⟩
  obtain ⟨x, hx, rfl⟩ := List.mem_map.mp hy
  split
  · exact hr
  · exact hlegal x hx

/-- R136, R137: the acted flag stays present or absent, and the count saturates. -/
theorem AlarmRecLegal.repeated {r : AlarmRec} (h : AlarmRecLegal r) (acted : Bool) (now : Millis) :
    AlarmRecLegal (repeatAlarm acted now r) := by
  obtain ⟨hacted, hlow, hhigh⟩ := h
  refine ⟨by simpa [repeatAlarm] using hacted, ?_, ?_⟩ <;> simp only [repeatAlarm, Config.repeatBound] <;> omega

theorem newAlarm_legal (key : AlarmKey) (acted : Bool) (s : State) : AlarmRecLegal (newAlarm key acted s) := by
  refine ⟨?_, le_rfl, by simp [newAlarm]⟩
  cases h : key.isPoleDrop <;> simp [newAlarm, h]

/-! ### The operations of the list (R136 to R141) -/

theorem removeAlarm_alm (r : AlarmRec) (s : State) : (removeAlarm r s).alm = dropAlarm r.key s.alm := by
  rw [removeAlarm, reportDropAck_eq]
  rfl

theorem AlarmsLegal.removeAlarm {s : State} (h : AlarmsLegal s) (r : AlarmRec) : AlarmsLegal (removeAlarm r s) := by
  rw [alarmsLegal_iff, removeAlarm_alm]
  exact AlarmListLegal.sublist h List.filter_sublist

theorem findAlarm_legal {key : AlarmKey} {s : State} {r : AlarmRec} (h : AlarmsLegal s)
    (hr : findAlarm key s = some r) : AlarmRecLegal r := h.2 r (List.mem_of_find?_eq_some hr)

theorem AlarmsLegal.raiseAlarm {s : State} (h : AlarmsLegal s) (key : AlarmKey) (acted : Bool) :
    AlarmsLegal (raiseAlarm key acted s) := by
  unfold Machine.raiseAlarm
  split
  · rename_i hnone
    exact AlarmListLegal.concat h (newAlarm_legal key acted s) ((findAlarm_eq_none_iff key s).mp hnone)
  · rename_i r hr
    exact AlarmListLegal.setAlarm h ((findAlarm_legal h hr).repeated acted s.ms)

theorem AlarmsLegal.clearAlarm {s : State} (h : AlarmsLegal s) (key : AlarmKey) : AlarmsLegal (clearAlarm key s) := by
  unfold Machine.clearAlarm
  split
  · exact h
  · rename_i r hr
    have hfound : AlarmRecLegal r := findAlarm_legal h hr
    have hlegal : AlarmRecLegal { r with state := .clearedUnacked } := hfound
    split
    · exact AlarmListLegal.setAlarm h hlegal
    · exact h.removeAlarm r
    · exact h

theorem AlarmsLegal.ackRecord {s : State} (h : AlarmsLegal s) {r : AlarmRec} (hr : AlarmRecLegal r) :
    AlarmsLegal (ackRecord r s) := by
  have hacked : AlarmRecLegal { r with state := .raisedAcked } := hr
  unfold Machine.ackRecord
  split
  · rw [reportDropAck_eq]
    exact AlarmListLegal.setAlarm h hacked
  · exact h.removeAlarm r
  · exact h

/-- R140: the records acknowledged are those of the list as the request found it. -/
theorem AlarmsLegal.ackAll {s : State} (h : AlarmsLegal s) : AlarmsLegal (ackAll s) :=
  List.foldlRecOn s.alm _ h fun _ ht _ hr => ht.ackRecord (h.2 _ hr)

theorem AlarmsLegal.ackBody {s : State} (h : AlarmsLegal s) (args : List Byte) : AlarmsLegal (ackBody args s).1 := by
  unfold Machine.ackBody
  split
  · split
    · exact h.ackAll
    · split
      · exact h
      · rename_i r hr
        obtain ⟨key, -, hfound⟩ := Option.bind_eq_some_iff.mp hr
        exact h.ackRecord (findAlarm_legal h hfound)
  · exact h

/-! ### Every step -/

theorem Writes.alm {l : List Piece} {s t : State} (h : Writes l s t) (hl : .alarms ∉ l := by simp) : t.alm = s.alm :=
  Eq.trans (b := (Piece.alarms.copy t s).alm) rfl (congrArg State.alm (h _ hl))

theorem AlarmsLegal.written {l : List Piece} {s t : State} (h : AlarmsLegal s) (hw : Writes l s t)
    (hl : .alarms ∉ l := by simp) : AlarmsLegal t := by
  rwa [alarmsLegal_iff, hw.alm hl]

theorem alarmsLegal_of_empty {t : State} (h : t.alm = []) : AlarmsLegal t := by
  simp [AlarmsLegal, h]

/-- R145: a RESTART leaves no record. -/
theorem restartAll_alm (s : State) : (restartAll s).alm = [] :=
  (writes_commandAllOff _).alm.trans (writes_placeNotice [8] (restartValues s)).alm

/-- Every command keeps the alarm list legal: those that write it by what they write, the others by their footprint. -/
theorem exec_keeps_alarms (c : Instr) (s t : State) (h : AlarmsLegal s) (hx : exec c s = .next t) : AlarmsLegal t := by
  by_cases hc : .alarms ∉ footprint c
  · exact h.written (exec_writes c s t hx) hc
  · have htaken : AlarmsLegal (taken c s) := h
    cases c <;> simp [footprint, auxPieces, commitPieces, abandonPieces] at hc <;>
      obtain rfl : _ = t := Host.Outcome.next.inj hx
    case powerOnReset => exact alarmsLegal_of_empty rfl
    case upstreamTxEnd =>
      split
      · exact h
      · dsimp only
        split; exacts [alarmsLegal_of_empty (restartAll_alm _), h]
    case alarmRaise key acted => exact htaken.raiseAlarm key acted
    case alarmClear key => exact htaken.clearAlarm key
    case ackAlarm q =>
      rcases runRequest_spec .ackAlarm q (ackBody q.args) s with ⟨-, e⟩ | ⟨s1, h1, ⟨-, e⟩ | ⟨-, e⟩⟩ <;> rw [e]
      · exact h
      · exact (h.written (writes_takeRequest h1)).written (writes_respond _ _ _ _)
      · exact ((h.written (writes_takeRequest h1)).ackBody q.args).written (writes_respond _ _ _ _)

/-- Settles O53: the two requests, the acknowledgement and the two resets keep the list legal, and no other command
touches it. -/
theorem alarmsStayLegal : Obligations.AlarmsStayLegal := by
  intro s t h hs
  rcases step_cases s t hs with ⟨c, rest, -, hx⟩ | ⟨c, -, -, hx⟩ | ⟨-, -, rfl⟩
  · exact exec_keeps_alarms c { s with pending := rest } t h hx
  · exact exec_keeps_alarms c s t h hx
  · exact h

end Sys2Proof.Machine
end

section
/-! ACK_ALARM (R139, R140): what the acknowledgement of one record leaves, and the walk over the list. -/

namespace Sys2Proof.Machine

/-! ### One record (R139) -/

/-- R139: an acknowledged record. -/
def ackedRec (r : AlarmRec) : AlarmRec := { r with state := .raisedAcked }

/-- R139, R141: what the acknowledgement of a record leaves in its place: a cleared one is removed. -/
def ackLeaves (r : AlarmRec) : List AlarmRec := if r.state = .clearedUnacked then [] else [ackedRec r]

/-- R141: the report that the acknowledgement of a record makes. -/
def ackReports (r : AlarmRec) : List Instr := if ackCounts r then dropReport r.key else []

/-- R143: group A after the ALARM frame of a record's acknowledgement or removal. -/
def ackFrames (s : State) (g : List GroupA) (r : AlarmRec) : List GroupA :=
  match r.state with
  | .raisedUnacked => putAlarm r.key (alarmFrame s 4 (ackedRec r)) g
  | .clearedUnacked => putAlarm r.key (alarmFrame s 5 r) g
  | .raisedAcked => g

theorem ackedRec_of_acked {r : AlarmRec} (h : r.state = .raisedAcked) : ackedRec r = r := by
  rw [ackedRec, ← h]

theorem ackRecord_split {pre post : List AlarmRec} {r : AlarmRec} {s : State} (hs : s.alm = pre ++ r :: post)
    (hk : ∀ x ∈ pre ++ post, x.key ≠ r.key) : ackRecord r s = { s with
      alm := pre ++ ackLeaves r ++ post
      handed := s.handed ++ ackReports r
      upi.groupA := ackFrames s s.upi.groupA r } := by
  unfold ackRecord ackLeaves ackReports ackFrames
  cases hstate : r.state with
  | raisedUnacked =>
    have halm : setAlarm (ackedRec r) s.alm = pre ++ [ackedRec r] ++ post := by
      rw [hs, setAlarm_split (r' := ackedRec r) hk rfl, List.append_assoc, List.singleton_append]
    simp only [ackCounts, hstate, reportDropAck_eq, ← ackedRec.eq_1, halm]
    rfl
  | raisedAcked => simp [ackCounts, hstate, ackedRec_of_acked hstate, ← hs]
  | clearedUnacked =>
    simp only [ackCounts, hstate, removeAlarm, reportDropAck_eq, placeAlarmFrame_eq, hs, dropAlarm_split hk,
      if_true, List.append_nil]
    rfl

/-! ### The walk over the list (R140) -/

/-- A record acknowledged leaves no other key than its own. -/
theorem ackLeaves_keys (r : AlarmRec) : ((ackLeaves r).map AlarmRec.key).Sublist [r.key] := by
  unfold ackLeaves
  split
  · exact List.nil_sublist _
  · exact .refl _

/-- R140: with the records before `l` done with, those of `l` are acknowledged one after another. -/
theorem foldl_ackRecord (l pre : List AlarmRec) (s : State) (hs : s.alm = pre ++ l)
    (hk : (s.alm.map AlarmRec.key).Nodup) : l.foldl (fun t r => ackRecord r t) s = { s with
      alm := pre ++ l.flatMap ackLeaves
      handed := s.handed ++ l.flatMap ackReports
      upi.groupA := l.foldl (ackFrames s) s.upi.groupA } := by
  induction l generalizing pre s with
  | nil => simp [← hs]
  | cons r rest ih =>
    have hkeys : ((pre ++ ackLeaves r ++ rest).map AlarmRec.key).Nodup := by
      rw [hs, List.append_cons] at hk
      simp only [List.map_append] at hk ⊢
      exact hk.sublist (((List.Sublist.refl _).append (ackLeaves_keys r)).append_right _)
    rw [List.foldl_cons, ackRecord_split hs (other_keys_of_nodup hk hs), ih (pre ++ ackLeaves r) _ rfl hkeys]
    simp only [List.flatMap_cons, List.append_assoc, List.foldl_cons]
    rfl

theorem flatMap_ackLeaves (l : List AlarmRec) :
    l.flatMap ackLeaves = (l.filter (fun r => decide (r.state ≠ .clearedUnacked))).map ackedRec := by
  induction l with
  | nil => rfl
  | cons r rest ih => by_cases h : r.state = .clearedUnacked <;> simp [ackLeaves, h, ih]

theorem flatMap_ackReports (l : List AlarmRec) :
    l.flatMap ackReports = (l.filter ackCounts).flatMap (fun r => dropReport r.key) := by
  induction l with
  | nil => rfl
  | cons r rest ih => cases h : ackCounts r <;> simp [ackReports, h, ih]

theorem ackAll_eq {s : State} (h : AlarmsLegal s) : ackAll s = { s with
    alm := (s.alm.filter (fun r => decide (r.state ≠ .clearedUnacked))).map ackedRec
    handed := s.handed ++ (s.alm.filter ackCounts).flatMap (fun r => dropReport r.key)
    upi.groupA := s.alm.foldl (ackFrames s) s.upi.groupA } := by
  obtain ⟨hkeys, -⟩ := h
  rw [ackAll, foldl_ackRecord s.alm [] s rfl hkeys, flatMap_ackLeaves, flatMap_ackReports]
  rfl

/-! ### The codes of the keys (R189) -/

theorem alarmKeyOf_code (key : AlarmKey) : alarmKeyOf (alarmKeyCode key) = some key := by
  rcases key with pole | pole | pole | _ | _ | _ | _ | _ | _ <;> (try cases pole) <;> rfl

theorem alarmKeyCode_of {c : Byte} {key : AlarmKey} (h : alarmKeyOf c = some key) : alarmKeyCode key = c := by
  simpa using List.find?_some h

/-- R139: 255 is ALL, and no key's code. -/
theorem alarmKeyCode_ne_all (key : AlarmKey) : alarmKeyCode key ≠ 255 := fun h =>
  nomatch (alarmKeyOf_code key).symm.trans (congrArg alarmKeyOf h)

/-! ### The request -/

theorem ackBody_all (s : State) : ackBody [255] s =
    (ackAll s, { status := .ok, fields := [BitVec.ofNat 8 (s.alm.countP ackCounts)] }) := rfl

theorem ackBody_key {r : AlarmRec} {s : State} (h : findAlarm r.key s = some r) : ackBody [alarmKeyCode r.key] s =
    (ackRecord r s, { status := .ok, fields := [if ackCounts r then 1 else 0] }) := by
  simp only [ackBody, if_neg (alarmKeyCode_ne_all r.key), alarmKeyOf_code, Option.bind_some, h]

theorem ackBody_unknown {c : Byte} {s : State} (hc : c ≠ 255) (h : ∀ r ∈ s.alm, alarmKeyCode r.key ≠ c) :
    ackBody [c] s = (s, plain .unknownKey) := by
  have hnone : (alarmKeyOf c).bind (fun k => findAlarm k s) = none := by
    refine Option.bind_eq_none_iff.mpr fun key hkey => (findAlarm_eq_none_iff key s).mpr fun r hr he => ?_
    exact h r hr (he ▸ alarmKeyCode_of hkey)
  simp only [ackBody, if_neg hc, hnone]

theorem ackBody_malformed {args : List Byte} (h : args.length ≠ 1) (s : State) :
    ackBody args s = (s, plain .badField) := by
  unfold ackBody
  split
  · exact absurd rfl h
  · rfl

/-- Settles O34: the request finds the list as it was, and each record is acknowledged in its place. -/
theorem alarmsAcknowledged : Obligations.AlarmsAcknowledged := by
  intro q s s1 ht ho hlegal acked frames isOpen
  obtain ⟨halm, hframes⟩ : s1.alm = s.alm ∧ ackFrames s1 = frames := by
    obtain ⟨queue, rfl⟩ := taken_frame ht
    exact ⟨rfl, rfl⟩
  have hlegal1 : AlarmsLegal s1 := by rwa [alarmsLegal_iff, halm]
  rw [← halm, ← hframes]
  refine ⟨fun hargs => ?all, fun pre post r hs hargs => ?key, fun c hargs hc hk => ?unknown, fun hargs => ?malformed⟩
  all_goals refine answered_of_body rfl ho ht ?_
  case all => rw [hargs, ackBody_all, ackAll_eq hlegal1]; rfl
  case key =>
    have hother := other_keys_of_nodup hlegal1.1 hs
    rw [hargs, ackBody_key (findAlarm_split hs hother), ackRecord_split hs hother]
    rfl
  case unknown => rw [hargs]; exact ackBody_unknown hc hk
  case malformed => exact ackBody_malformed hargs _

end Sys2Proof.Machine
end

section
/-! Every command has an outcome, and what all of them leave alone (spec 95; log entry 3). -/

namespace Sys2Proof.Machine

/-! ### Outcomes and inputs -/

/-- No command's meaning ends in a fault or a refusal. -/
theorem exec_total (c : Instr) (s : State) : ∃ t, exec c s = .next t := by
  cases c <;> exact ⟨_, rfl⟩

theorem inputs_notMem_footprint (c : Instr) : .inputs ∉ footprint c := by
  cases c <;> simp [footprint, auxPieces, commitPieces, abandonPieces]

theorem clock_notMem_footprint {c : Instr} (h : c ≠ .powerOnReset) : .clock ∉ footprint c := by
  cases c
  case powerOnReset => exact absurd rfl h
  all_goals simp [footprint, auxPieces, commitPieces, abandonPieces]

section Kept

variable {l : List Piece} {s t : State} (h : Writes l s t)

include h

theorem Writes.ms (hl : .clock ∉ l) : t.ms = s.ms :=
  Eq.trans (b := (Piece.clock.copy t s).ms) rfl (congrArg State.ms (h _ hl))

theorem Writes.inputs (hl : .inputs ∉ l) : t.pending = s.pending ∧ t.strap = s.strap ∧ t.found = s.found := by
  have hcopy : { s with strap := t.strap, found := t.found, pending := t.pending } = s := h _ hl
  obtain ⟨-, hstrap, hfound, -, -, -, -, -, -, -, -, -, -, -, -, hpending⟩ := State.mk.inj hcopy
  exact ⟨hpending, hstrap, hfound⟩

end Kept

theorem exec_keeps_inputs {c : Instr} {s t : State} (hx : exec c s = .next t) :
    t.pending = s.pending ∧ t.strap = s.strap ∧ t.found = s.found :=
  (exec_writes c s t hx).inputs (inputs_notMem_footprint c)

theorem exec_keeps_ms {c : Instr} {s t : State} (hx : exec c s = .next t) (hc : c ≠ .powerOnReset) : t.ms = s.ms :=
  (exec_writes c s t hx).ms (clock_notMem_footprint hc)

/-- Spec 95: a step takes the front command off the queue, where one waits. -/
theorem step_total (s : State) : ∃ t, step s = .next t ∧ t.pending = s.pending.tail := by
  unfold step
  split
  · rename_i c rest hp
    obtain ⟨t, hx⟩ := exec_total c { s with pending := rest }
    exact ⟨t, hx, (exec_keeps_inputs hx).1.trans (congrArg List.tail hp).symm⟩
  · rename_i hp
    unfold idle
    rw [hp]
    split
    · rename_i c _
      obtain ⟨t, hx⟩ := exec_total c s
      exact ⟨t, hx, (exec_keeps_inputs hx).1.trans hp⟩
    · exact ⟨_, rfl, hp⟩

/-- Settles O2: the outcome and the frame are those of every command's footprint, and an event that cannot occur is
judged as such by its own meaning. -/
theorem everyCommandCompletes : Obligations.EveryCommandCompletes := by
  refine ⟨fun c s => ?completes, step_total, fun s c h => ?cannotOccur⟩
  case completes =>
    obtain ⟨t, hx⟩ := exec_total c s
    obtain ⟨hpending, hstrap, hfound⟩ := exec_keeps_inputs hx
    exact ⟨t, hx, hpending, hstrap, hfound, exec_keeps_ms hx⟩
  case cannotOccur =>
    rcases h with ⟨rfl, h⟩ | ⟨rfl, h⟩ | ⟨rfl, h⟩ | ⟨rfl, h⟩ | ⟨rfl, h⟩ | ⟨rfl, h⟩ |
      ⟨pole, ⟨rfl, h⟩ | ⟨rfl, h⟩ | ⟨rfl, h⟩ | ⟨rfl, h⟩⟩ | ⟨i, rfl, h⟩ | ⟨source, rfl, h⟩ | ⟨rfl, h⟩ |
      ⟨rfl | ⟨a, rfl⟩, h⟩ | ⟨rfl, h⟩ | ⟨rfl, h⟩ | ⟨rfl, h⟩ | ⟨rfl, h⟩
    · simp only [exec, execTPosExpiry, h]
    · simp only [exec, execNoLineTimerExpiry, h]
    · simp only [exec, execTStaleExpiry, h]
    · simp only [exec, execTCutExpiry, h]
    · simp only [exec, execHoldTimerExpiry, h]
    · simp only [exec, execTOpenExpiry, abandonTable, h]
    · simp only [exec, execTSmpExpiry, h]
    · simp only [exec, execTRaiseExpiry, h]
    · simp only [exec, execTRetrExpiry, h]
    · simp only [exec, execTCmdExpiry, h]
    · simp only [exec, execMinOffExpiry, h]
    · exact congrArg Host.Outcome.next (if_neg (by simpa using h))
    · exact congrArg Host.Outcome.next (if_pos (by simpa [Option.isSome_iff_ne_none] using h))
    · simp only [exec, execArbitrationLost, h]
    · simp only [exec, execCommandTxEnd, h]
    · exact congrArg Host.Outcome.next (if_pos h)
    · exact congrArg Host.Outcome.next (if_neg (by simp [h]))
    · simp only [exec, execPortDTxEnd, h]
    · simp only [exec, execUpstreamTxEnd, h]

end Sys2Proof.Machine
end

section
/-! The reading requests: what number each run of bytes carries, and the layouts of chapter 11 field by field (R183 to
R188). -/

namespace Sys2Proof.Machine

/-! ### Fields and their bytes (R183) -/

section Fields

variable {rest : List Byte} {l : List (Nat × Nat)}

theorem Carries.field {bytes : List Byte} {width v : Nat} (h : Carries rest l) (hw : bytes.length = width)
    (hv : bigEndian bytes = v % 256 ^ width) : Carries (bytes ++ rest) ((width, v) :: l) := by
  subst hw
  exact ⟨by simp, by simpa using hv, by simpa using h⟩

theorem Carries.byte (b : Byte) (h : Carries rest l) : Carries (b :: rest) ((1, b.toNat) :: l) :=
  h.field (bytes := [b]) rfl (by have := b.isLt; simp [bigEndian]; omega)

theorem Carries.number (n : Nat) (h : Carries rest l) : Carries (BitVec.ofNat 8 n :: rest) ((1, n) :: l) :=
  h.field (bytes := [BitVec.ofNat 8 n]) rfl (by simp [bigEndian])

theorem bigEndian_be16 (h : Half) : bigEndian (be16 h) = h.toNat := by
  have := h.isLt
  simp [bigEndian, be16, Nat.shiftRight_eq_div_pow]
  omega

theorem bigEndian_be32 (t : Millis) : bigEndian (be32 t) = t.toNat := by
  have := t.isLt
  simp [bigEndian, be32, Nat.shiftRight_eq_div_pow]
  omega

theorem Carries.half (x : Half) (h : Carries rest l) : Carries (be16 x ++ rest) ((2, x.toNat) :: l) :=
  h.field rfl (by rw [bigEndian_be16]; have := x.isLt; omega)

theorem Carries.unsigned (n : Nat) (h : Carries rest l) : Carries (unsigned16 n ++ rest) ((2, n) :: l) :=
  h.field rfl (by simp [unsigned16, bigEndian_be16])

theorem Carries.signed (i : Int) (h : Carries rest l) : Carries (signed16 i ++ rest) (signedField i :: l) :=
  h.field rfl (by rw [signed16, bigEndian_be16, BitVec.toNat_ofInt]; omega)

theorem Carries.millis (t : Millis) (h : Carries rest l) : Carries (be32 t ++ rest) ((4, t.toNat) :: l) :=
  h.field rfl (by rw [bigEndian_be32]; have := t.isLt; omega)

theorem toNat_shift_or (x : Byte) (b : Bool) :
    ((x <<< 1) ||| (if b then 1 else 0)).toNat = (x.toNat * 2 + b.toNat) % 256 := by
  revert x b; decide

theorem bitsByte_toNat (flags : List Bool) : (bitsByte flags).toNat = (flagField flags).2 % 256 := by
  induction flags with
  | nil => rfl
  | cons b rest ih =>
    rw [bitsByte, toNat_shift_or, ih]
    simp only [flagField, List.foldr_cons]
    omega

theorem Carries.flags (flags : List Bool) (h : Carries rest l) :
    Carries (bitsByte flags :: rest) (flagField flags :: l) :=
  h.field (bytes := [bitsByte flags]) rfl (by simp [bigEndian, bitsByte_toNat, flagField])

theorem Carries.append {bytes : List Byte} {m : List (Nat × Nat)} (hb : Carries bytes m) (h : Carries rest l) :
    Carries (bytes ++ rest) (m ++ l) := by
  induction m generalizing bytes with
  | nil => obtain rfl : bytes = [] := hb; exact h
  | cons f m ih =>
    obtain ⟨hw, hv, hm⟩ := hb
    have hfield := (ih hm).field (List.length_take_of_le hw) hv
    rwa [← List.append_assoc, List.take_append_drop] at hfield

end Fields

theorem carries_nil : Carries [] [] := rfl

theorem carries_flatMap {α : Type} {bytes : α → List Byte} {layout : α → List (Nat × Nat)}
    (h : ∀ x, Carries (bytes x) (layout x)) (xs : List α) : Carries (xs.flatMap bytes) (xs.flatMap layout) := by
  induction xs with
  | nil => exact carries_nil
  | cons x rest ih => exact (h x).append ih

theorem carries_map {α : Type} (n : α → Nat) (xs : List α) :
    Carries (xs.map fun x => BitVec.ofNat 8 (n x)) (xs.map fun x => (1, n x)) := by
  induction xs with
  | nil => exact carries_nil
  | cons x rest ih => exact ih.number (n x)

/-! ### Records and blocks (R185 to R187) -/

theorem toNat_nodeByte (n : Node) : (nodeByte n).toNat = n.toNat :=
  BitVec.toNat_setWidth_of_le (by decide)

theorem toNat_nodeByte_partNode (s : State) : (nodeByte (partNode s)).toNat = 40 + s.strap.toNat := by
  have := s.strap.isLt
  rw [toNat_nodeByte]
  simp [partNode]
  omega

theorem identFields_carries (s : State) : Carries (identFields s) (identLayout s) := by
  rw [identLayout, ← toNat_nodeByte_partNode]
  exact .half Config.vendorCode <| .half Config.partCode <| .byte Config.revision <| .byte _ <|
    .number 128 <| .number 16 <| .number 4 <| .number 27 <| .number 5 carries_nil

/-- R187: the last sample in a channel block, zeros where it is absent. -/
def lastSampleLayout : Option LastSample → List (Nat × Nat)
  | none => [(1, 0), (2, 0), (1, 0), (2, 0)]
  | some x => [(1, x.seq.toNat), (2, x.angle), flagField [x.contact, x.hook], (2, x.volts.toNat)]

theorem lastSampleBytes_carries (x : Option LastSample) : Carries (lastSampleBytes x) (lastSampleLayout x) := by
  cases x with
  | none => exact .byte 0 <| .half 0 <| .byte 0 <| .half 0 carries_nil
  | some x =>
    have hvolts : (x.volts.setWidth 16).toNat = x.volts.toNat := BitVec.toNat_setWidth_of_le (by decide)
    rw [lastSampleLayout, ← hvolts]
    exact .byte _ <| .unsigned _ <| .flags _ <| .half _ carries_nil

theorem channelBytes_carries (c : Channel) : Carries (channelBytes c) (channelLayout c) :=
  .append (.byte _ <| .byte _ <| .flags _ <| .unsigned _ <| .number _ <| .number _ carries_nil)
    (lastSampleBytes_carries c.last)

theorem viewBlock_carries (s : State) :
    Carries (viewBlock s.sct.view s.sct.position s.sct.matched) (viewLayout s) := by
  unfold viewBlock viewLayout
  simp only [List.append_assoc, List.cons_append, List.nil_append]
  refine .byte _ <| .unsigned _ <| .number _ <| .unsigned _ <| .flags _ ?_
  have hmatched : Carries [(s.sct.matched.map fun i => BitVec.ofNat 8 i.val).getD 255]
      [(1, match s.sct.matched with | none => 255 | some i => i.val)] := by
    cases s.sct.matched with
    | none => exact .number 255 carries_nil
    | some i => exact .number _ carries_nil
  cases s.sct.position with
  | none => exact .byte 255 <| .half 0 hmatched
  | some x => exact .byte _ <| .half _ hmatched

/-- R183, R187: the open table and its owner, 255 and 0 where no table is open. -/
def openTableLayout : Option OpenTable → List (Nat × Nat)
  | none => [(1, 255), (1, 0)]
  | some o => [(1, (tableCode o.table).toNat), (1, o.owner.toNat)]

theorem openTableBytes_carries (o : Option OpenTable) : Carries (openTableBytes o) (openTableLayout o) := by
  cases o with
  | none => exact .byte 255 <| .byte 0 carries_nil
  | some o =>
    rw [openTableLayout, ← toNat_nodeByte]
    exact .byte _ <| .byte _ carries_nil

theorem recordBytes_carries (b : BudgetRecord) {rest : List Byte} {l : List (Nat × Nat)} (h : Carries rest l) :
    Carries (recordBytes b ++ rest) ((1, (modeCode b.mode).toNat) :: (1, (subkindCode b.mode).toNat) :: (2, b.supply) ::
      (2, b.auxCap) :: (2, b.motoring) :: (2, b.regen) :: (2, b.reservation) :: l) := by
  simp only [recordBytes, List.append_assoc, List.cons_append, List.nil_append]
  exact .byte _ <| .byte _ <| .unsigned _ <| .unsigned _ <| .unsigned _ <| .unsigned _ <| .unsigned _ h

theorem stateFields_carries (s : State) : Carries (stateFields s) (stateLayout s) := by
  simp only [stateFields, stateLayout, List.append_assoc, List.cons_append, List.nil_append]
  exact .byte _ <| .byte _ <| recordBytes_carries _ <| (channelBytes_carries _).append <|
    (channelBytes_carries _).append <| (viewBlock_carries s).append <| .flags _ <| .unsigned _ <| .signed _ <|
    openTableBytes_carries _

/-- A flag that may be absent is reported false where it is. -/
theorem beq_some_true (o : Option Bool) : (o == some true) = o.getD false := by
  rcases o with _ | b
  · rfl
  · cases b <;> rfl

theorem loadBlock_carries (r : LoadRec) : Carries (loadBlock r) (loadLayout r) := by
  rw [loadLayout, ← beq_some_true]
  exact .byte _ <| .flags _ <| .millis _ <| .millis _ carries_nil

theorem alarmRecordBytes_carries (r : AlarmRec) : Carries (alarmRecordBytes r) (recordLayout r) := by
  rw [recordLayout, ← beq_some_true]
  simp only [alarmRecordBytes, List.append_assoc, List.cons_append, List.nil_append]
  exact .byte _ <| .byte _ <| .flags _ <| .millis _ <| .millis _ <| .number _ <| .unsigned _ <| .half _ <|
    .unsigned _ carries_nil

/-- The elements of a vector, by index. -/
theorem toList_eq_map_finRange {α : Type} {n : Nat} (v : Vector α n) :
    v.toList = (List.finRange n).map fun i => v[i] := by
  apply List.ext_getElem <;> simp

/-- R187: the blocks of loads 1 to 16. -/
theorem loadBlocks_carries (s : State) : Carries (s.axs.loads.toList.flatMap loadBlock)
    ((List.finRange 16).flatMap fun i => loadLayout (loadRec s i)) := by
  rw [toList_eq_map_finRange, List.flatMap_map]
  exact carries_flatMap (fun i => loadBlock_carries (loadRec s i)) _

theorem loadsFields_carries (s : State) : Carries (loadsFields s) (loadsLayout s) := by
  have hlength : (waitingList s).length = s.axs.joinOrder.length := (sortBy_perm _).length_eq
  rw [loadsLayout, ← hlength]
  exact ((loadBlocks_carries s).append (carries_nil.number _)).append (carries_map _ _)

theorem alarmsFields_carries (s : State) : Carries (alarmsFields s) (alarmsLayout s) :=
  (carries_flatMap alarmRecordBytes_carries s.alm).number _

theorem errBytes_carries (e : ErrRec) : Carries (errBytes e) (errLayout e) := by
  have hflags : (e.flags.setWidth 8).toNat = e.flags.toNat := BitVec.toNat_setWidth_of_le (by decide)
  rw [errLayout, ← hflags]
  exact .byte _ <| .byte _ carries_nil

theorem errorsFields_carries (s : State) : Carries (errorsFields s)
    (errLayout s.upi.err ++ errLayout s.dec.err ++ errLayout s.pli.err) :=
  ((errBytes_carries _).append (errBytes_carries _)).append (errBytes_carries _)

/-! ### Table entries (R188) -/

theorem sectionEntryBytes_carries (e : SectionEntry) : Carries (sectionEntryBytes e)
    [flagField [e.valid], (2, e.id.toNat), (1, e.route.toNat), (2, e.start.toNat), (2, e.stop.toNat),
      (1, e.kind.toNat), (2, e.cap.toNat), (1, e.profile.toNat)] := by
  simp only [sectionEntryBytes, List.append_assoc, List.cons_append, List.nil_append]
  exact .flags _ <| .half _ <| .byte _ <| .half _ <| .half _ <| .byte _ <| .half _ <| .byte _ carries_nil

theorem auxEntryBytes_carries (e : AuxEntry) : Carries (auxEntryBytes e)
    [flagField [e.valid], (1, e.node.toNat), (1, e.nominal.toNat), (1, e.priority.toNat), (2, e.minOn.toNat),
      (2, e.minOff.toNat), flagField [e.battery]] := by
  simp only [auxEntryBytes, List.append_assoc, List.cons_append, List.nil_append]
  exact .flags _ <| .byte _ <| .byte _ <| .byte _ <| .half _ <| .half _ <| .flags _ carries_nil

theorem profileEntryBytes_carries (e : ProfileEntry) : Carries (profileEntryBytes e)
    [(2, e.drop.toNat), (1, e.rate.toNat), (1, e.confirm.toNat), (2, e.stowedMax.toNat), (2, e.bandMin.toNat)] := by
  simp only [profileEntryBytes, List.append_assoc, List.cons_append, List.nil_append]
  exact .half _ <| .byte _ <| .byte _ <| .half _ <| .half _ carries_nil

/-- R171: the entries from a start index onward, each where the table has one. -/
theorem entries_carries {α : Type} {n : Nat} {bytes : α → List Byte} {layout : α → List (Nat × Nat)}
    (h : ∀ e, Carries (bytes e) (layout e)) (v : Vector α n) (start count : Nat) :
    Carries (((v.toList.drop start).take count).flatMap bytes)
      ((List.range count).flatMap fun k => (v[start + k]?.map layout).getD []) := by
  have hlayout : ((List.range count).flatMap fun k => (v[start + k]?.map layout).getD []) =
      ((v.toList.drop start).take count).flatMap layout := by
    induction count with
    | zero => rfl
    | succ count ih =>
      rw [List.range_succ, List.flatMap_append, ih, List.take_add_one, List.flatMap_append, List.getElem?_drop,
        Vector.getElem?_toList, List.flatMap_singleton]
      cases v[start + count]? <;> simp
  rw [hlayout]
  exact carries_flatMap h _

theorem activeBytes_carries (table : TableId) (start count : Nat) (s : State) :
    Carries (activeBytes table start count s)
      ((List.range count).flatMap fun k => entryLayout table (start + k) s) := by
  cases table with
  | sections => exact entries_carries sectionEntryBytes_carries s.sct.active start count
  | aux => exact entries_carries auxEntryBytes_carries s.axs.active start count
  | profile => exact entries_carries profileEntryBytes_carries s.pwu.active start count
  | parameter =>
    have hparam : ∀ v : Half, Carries (be16 v) [(2, v.toNat)] := fun v => carries_nil.half v
    exact entries_carries hparam s.mge.params start count
  | classMap =>
    have hclass : ∀ c : Byte, Carries [c] [(1, c.toNat)] := fun c => carries_nil.byte c
    have hmap := entries_carries hclass s.dec.classMap start count
    rwa [List.flatMap_singleton'] at hmap

/-! ### The requests (R165, R166, R168, R171) -/

/-- R189: the codes as the manual lists them. -/
theorem codesAsListed : CodesAsListed := by
  unfold CodesAsListed
  decide

/-- R165, R166: a reading request without fields is answered with what it reads, and with any field BAD_FIELD. -/
theorem answered_read {code : ReqCode} {q : Request} {s s1 : State} {fields : State → List Byte}
    {layout : List (Nat × Nat)}
    (hexec : exec (requestCmd code q) s = .next (runRequest code q (readBody q.args fields) s))
    (ho : q.overLength = false) (ht : Taken code q s s1) (hf : Carries (fields s1) layout) :
    (q.args = [] → ∃ fields, Carries fields layout ∧ Answered code q s .ok fields s1) ∧
      (q.args ≠ [] → Answered code q s .badField [] s1) :=
  ⟨fun ha => ⟨fields s1, hf, answered_of_body hexec ho ht (if_pos ha)⟩,
    fun ha => answered_of_body hexec ho ht (if_neg ha)⟩

theorem readErrorsBody_malformed {args : List Byte} (h : args.length ≠ 3) (s : State) :
    readErrorsBody args s = (s, plain .badField) := by
  unfold readErrorsBody
  split
  · exact absurd rfl h
  · rfl

/-- R165, R171: the fields that TABLE_READ refuses before it looks at the table. -/
theorem readTableBody_malformed {args : List Byte} (h : args.length ≠ 3 ∨ (∃ c ∈ args.head?, 4 < c.toNat) ∨
    ∃ n ∈ args[2]?, n.toNat < 1 ∨ 8 < n.toNat) (s : State) : readTableBody args s = (s, plain .badField) := by
  unfold readTableBody
  split
  · rename_i tc start count
    rcases h with h | ⟨c, hc, h4⟩ | ⟨n, hn, hbad⟩
    · exact absurd rfl h
    · obtain rfl : tc = c := by simpa using hc
      rw [tableOf_eq_none h4]
    · obtain rfl : count = n := by simpa using hn
      split
      · rfl
      · exact if_pos hbad
  · rfl

section Formed

variable {start count : Byte} (hlow : 1 ≤ count.toNat) (hhigh : count.toNat ≤ 8) (t : TableId) (s : State)

include hlow hhigh

theorem readTableBody_ok (h : start.toNat + count.toNat ≤ tableCapacity t) :
    readTableBody [tableCode t, start, count] s =
      (s, ⟨.ok, [tableCode t, start, count] ++ activeBytes t start.toNat count.toNat s⟩) := by
  simp only [readTableBody, tableOf_tableCode, if_neg (show ¬ (count.toNat < 1 ∨ 8 < count.toNat) by omega),
    if_neg (Nat.not_lt.mpr h)]

theorem readTableBody_badIndex (h : ¬ start.toNat + count.toNat ≤ tableCapacity t) :
    readTableBody [tableCode t, start, count] s = (s, plain .badIndex) := by
  simp only [readTableBody, tableOf_tableCode, if_neg (show ¬ (count.toNat < 1 ∨ 8 < count.toNat) by omega),
    if_pos (Nat.lt_of_not_le h)]

end Formed

/-- Settles O46: taking a request leaves what it reads, and the bytes that it reads carry their layouts. -/
theorem readRequestsAnswered : Obligations.ReadRequestsAnswered := by
  refine ⟨codesAsListed, fun q s s1 ho => ⟨fun code layout hcode ht => ?read, fun ht => ⟨?errors, ?errorsBad⟩,
    fun ht => ⟨?table, ?tableBad⟩⟩⟩
  case read =>
    obtain ⟨queue, rfl⟩ := taken_frame ht
    simp only [List.mem_cons, List.not_mem_nil, or_false, Prod.mk.injEq] at hcode
    rcases hcode with ⟨rfl, rfl⟩ | ⟨rfl, rfl⟩ | ⟨rfl, rfl⟩ | ⟨rfl, rfl⟩
    · exact answered_read rfl ho ht (identFields_carries s)
    · exact answered_read rfl ho ht (stateFields_carries s)
    · exact answered_read rfl ho ht (loadsFields_carries s)
    · exact answered_read rfl ho ht (alarmsFields_carries s)
  case errors =>
    intro m2 m1 m0 hargs mask
    obtain ⟨queue, rfl⟩ := taken_frame ht
    refine ⟨_, errorsFields_carries s, answered_of_body rfl ho ht ?_⟩
    rw [hargs]
    rfl
  case errorsBad => exact fun hargs => answered_of_body rfl ho ht (readErrorsBody_malformed hargs s1)
  case table =>
    intro table start count hargs hlow hhigh
    obtain ⟨queue, rfl⟩ := taken_frame ht
    split
    · rename_i hroom
      refine ⟨_, activeBytes_carries table start.toNat count.toNat s, answered_of_body rfl ho ht ?_⟩
      rw [hargs]
      exact readTableBody_ok hlow hhigh table _ hroom
    · rename_i hroom
      refine answered_of_body rfl ho ht ?_
      rw [hargs]
      exact readTableBody_badIndex hlow hhigh table _ hroom
  case tableBad => exact fun hargs => answered_of_body rfl ho ht (readTableBody_malformed hargs s1)

end Sys2Proof.Machine
end

section
/-! What an operation of AXS keeps: its pieces are changes of AXS's own state, events, notices, commands and errors. -/

namespace Sys2Proof.Machine

/-- A property of the state that survives everything AXS's operations are made of: changes of AXS's own state and of the
events in flight, notices, commands in lane 2, and error codes. -/
structure KeptByAux (P : State → Prop) : Prop where
  axs     : ∀ {s} (a : Axs), P s → P { s with axs := a }
  handed  : ∀ {s} (e : List Instr), P s → P { s with handed := e }
  notice  : ∀ {s} (payload : List Byte), P s → P (placeNotice payload s)
  command : ∀ {s} (i : LoadIx) (f : Frame), P s → P (placeCommand i f s)
  errorU  : ∀ {s} (c : ErrCode), P s → P (errorU c s)
  errorD  : ∀ {s} (c : ErrCode), P s → P (errorD c s)

theorem holds_ite (P : State → Prop) {c : Prop} [Decidable c] {t u : State} (ht : P t) (hu : P u) :
    P (if c then t else u) := by
  split
  · exact ht
  · exact hu

theorem holds_foldl (P : State → Prop) {α : Type} (f : State → α → State) (hf : ∀ {s} x, P s → P (f s x))
    (l : List α) {s : State} (h : P s) : P (l.foldl f s) := List.foldlRecOn l f h fun _ ht x _ => hf x ht

namespace KeptByAux

variable {P : State → Prop} (k : KeptByAux P) {s : State} (h : P s)

include k h

/-! ### One load -/

theorem setLoad (i : LoadIx) (r : LoadRec) : P (setLoad i r s) := k.axs _ h

theorem joinWaiting (i : LoadIx) : P (joinWaiting i s) := k.axs _ (k.setLoad h i _)

theorem leaveWaiting (i : LoadIx) : P (leaveWaiting i s) := k.axs _ (k.setLoad h i _)

theorem enterState (i : LoadIx) (new : LoadState) (cause : AuxCause) : P (enterState i new cause s) :=
  k.notice _ (k.setLoad h _ _)

theorem leaveOn (i : LoadIx) (e : AuxEntry) : P (leaveOn i e s) :=
  k.setLoad (k.axs _ (k.command _ _ h)) i _

theorem commandLoad (i : LoadIx) (on : Bool) : P (commandLoad i on s) := k.command _ _ h

theorem shedLoad (i : LoadIx) (cause : AuxCause) : P (shedLoad i cause s) :=
  k.enterState (k.joinWaiting (k.leaveOn h _ _) _) _ _ _

theorem admitLoad (i : LoadIx) : P (admitLoad i s) :=
  k.enterState (k.commandLoad (k.axs _ (k.leaveWaiting h i)) i true) _ _ _

/-! ### Walks over the loads -/

theorem handReservation (before : Nat) : P (handReservation before s) := holds_ite P h (k.handed _ h)

theorem admissionPass : P (admissionPass s) :=
  holds_foldl P tryAdmit (fun i ht => holds_ite P (k.admitLoad ht i) ht) (waitingList s) h

/-- R114: an event that ends in an admission pass, and R handed over. -/
theorem passed (before : Nat) : P (Machine.handReservation before (Machine.admissionPass s)) :=
  k.handReservation (k.admissionPass h) before

theorem excludeAndShed : P (excludeAndShed s) := by
  have hexcluded : P (forcedExclusion s) :=
    holds_foldl P excludeLoad (fun i ht => holds_ite P ht (k.shedLoad ht i _)) (onLoads s) h
  have hswept : ∀ {t}, P t → P (budgetShed t) := fun ht => by
    unfold budgetShed
    exact holds_foldl P sweepSecond (fun i hu => holds_ite P (k.shedLoad hu i _) hu) _
      (holds_foldl P sweepFirst (fun i hu => holds_ite P (k.shedLoad hu i _) hu) _ ht)
  have hleft := holds_ite P (c := fromBattery s.axs.record.mode = true) hexcluded h
  exact holds_ite P (hswept hleft) hleft

theorem commandAllOff : P (commandAllOff s) := 
  holds_foldl P _ (fun i ht => holds_ite P (k.commandLoad ht i false) ht) (List.finRange 16) h

/-! ### Events of AXS -/

theorem requestOn (i : LoadIx) : P (requestOn i s) := by
  have hset := k.setLoad h i { loadRec s i with requested := true }
  unfold Machine.requestOn
  dsimp only
  split
  · exact k.passed (k.enterState (k.joinWaiting hset _) _ _ _) _
  · exact hset

theorem requestOff (i : LoadIx) : P (requestOff i s) := by
  have hset := k.setLoad h i { loadRec s i with requested := false }
  unfold Machine.requestOff
  dsimp only
  split
  · exact k.passed (k.enterState (k.leaveOn hset _ _) _ _ _) _
  · exact k.enterState (k.leaveWaiting hset _) _ _ _
  · exact k.enterState (k.leaveWaiting hset _) _ _ _
  · exact k.enterState hset _ _ _
  · exact hset

theorem takeRecordAxs (r : BudgetRecord) : P (takeRecordAxs r s) := by
  have hshed := k.excludeAndShed (k.axs { s.axs with record := r } h)
  exact k.handReservation (holds_ite P (k.admissionPass hshed) hshed) _

theorem reviewLoads : P (reviewLoads s) := k.passed (k.excludeAndShed h) _

theorem judgeFault (i : LoadIx) (faulty : Bool) : P (judgeFault i faulty s) := by
  unfold Machine.judgeFault
  split
  · exact k.enterState (k.leaveOn h _ _) _ _ _
  · exact k.enterState (k.leaveWaiting h _) _ _ _
  · exact k.enterState (k.leaveWaiting h _) _ _ _
  · exact k.enterState (k.joinWaiting h _) _ _ _
  · exact h

theorem takeStatus (i : LoadIx) (status : Byte) : P (takeStatus i status s) := by
  have hmarked := k.setLoad h i { loadRec s i with running := some (status.getLsbD 0) }
  have hfault := k.judgeFault hmarked i (status.getLsbD 1)
  have hresent : P (resendOff i (status.getLsbD 0) _) := holds_ite P (k.commandLoad hfault i false) hfault
  exact k.handReservation (holds_ite P (k.admissionPass hresent) hresent) _

theorem retireLoad (old : AuxTable) (i : LoadIx) : P (retireLoad old s i) := by
  have hset := k.setLoad h i { loadRec s i with requested := false }
  unfold Machine.retireLoad
  split
  · exact h
  · dsimp only
    split
    · exact k.enterState (k.leaveOn hset _ _) _ _ _
    · exact k.enterState (k.leaveWaiting hset _) _ _ _
    · exact k.enterState (k.leaveWaiting hset _) _ _ _
    · exact k.enterState hset _ _ _
    · exact hset

theorem swapAux (new : AuxTable) : P (swapAux new s) := by
  have hactive : P { s with axs.active := new } := k.axs _ h
  have hretired : P (retiredLoads s.axs.active { s with axs.active := new }) :=
    holds_foldl P (Machine.retireLoad s.axs.active) (fun i ht => k.retireLoad ht s.axs.active i) (List.finRange 16) hactive
  have hsum : P (retired new s) := by
    rw [retired]
    exact k.axs _ hretired
  rw [swapAux_eq]
  exact k.passed (k.excludeAndShed hsum) _

end KeptByAux

/-- The commands that AXS takes for its loads, apart from a table's commit. -/
def commandsLoads : Instr → Bool
  | .auxRequestOn _ | .auxRequestOff _ | .auxStatus _ | .budgetRecordAtAxs _ | .minOnExpiry _ | .minOffExpiry _
  | .axsParameterCommit => true
  | _ => false

theorem KeptByAux.exec {P : State → Prop} (k : KeptByAux P) {c : Instr} {s t : State} (h : P s)
    (hc : commandsLoads c = true) (hx : exec c s = .next t) : P t := by
  have htaken : P (taken c s) := k.handed _ h
  cases c <;> simp only [commandsLoads, Bool.false_eq_true] at hc <;> obtain rfl : _ = t := Host.Outcome.next.inj hx
  case auxRequestOn f =>
    split; exacts [k.errorU _ htaken, k.requestOn htaken _, htaken]
  case auxRequestOff f =>
    split; exacts [k.errorU _ htaken, k.requestOff htaken _, htaken]
  case auxStatus f =>
    split
    · exact k.errorD _ htaken
    · split
      · exact k.errorD _ htaken
      · exact holds_ite P (k.takeStatus htaken _ _) htaken
  case budgetRecordAtAxs r => exact k.takeRecordAxs htaken r
  case minOnExpiry i => exact k.setLoad h i _
  case minOffExpiry i => split; exacts [h, k.passed (k.setLoad h _ _) _]
  case axsParameterCommit => exact k.reviewLoads htaken

/-! ### Requests and table commits -/

section Holds

variable (P : State → Prop)

theorem holds_runRequest {q : Request} (htaken : ∀ {payload s t}, P s → takeRequest payload q s = some t → P t)
    (hanswered : ∀ {s} echo reply, P s → P (respond q.source echo reply s)) {body : State → State × Reply}
    (hbody : ∀ {s}, P s → P (body s).1) (code : ReqCode) {s : State} (h : P s) : P (runRequest code q body s) := by
  rcases runRequest_spec code q body s with ⟨-, e⟩ | ⟨s1, h1, ⟨-, e⟩ | ⟨-, e⟩⟩ <;> rw [e]
  · exact h
  · exact hanswered _ _ (htaken h h1)
  · exact hanswered _ _ (hbody (htaken h h1))

theorem holds_tableBody {act : TableId → State → State × Reply} {s : State} (hact : ∀ t, P (act t s).1)
    (args : List Byte) (h : P s) : P (tableBody args act s).1 := by
  unfold tableBody
  split
  · split
    · exact h
    · exact hact _
  · exact h

theorem holds_commitTable (hopen : ∀ {s} (o : Option OpenTable), P s → P { s with mge.openTable := o })
    (hswap : ∀ {s} t, P s → P (swapTable t s).1) (source : Node) (t : TableId) {s : State} (h : P s) :
    P (commitTable source t s).1 := by
  unfold commitTable
  split
  · split
    · exact hopen _ h
    · exact hswap _ (hopen none h)
  · exact h

end Holds

end Sys2Proof.Machine
end

section
/-! The lanes and the hold timer stay legal under every step (R150, R152, R156). -/

namespace Sys2Proof.Machine

/-! ### Legal lanes -/

/-- R150, R151: the bounds of the two FIFOs, and one command for each load. -/
def LanesBounded (l : Lanes) : Prop :=
  l.fifo0.length ≤ 4 ∧ l.fifo2.length ≤ 8 ∧ (l.slots.map Prod.fst).Nodup

/-- R152, R156: what `LanesLegal` says beside the bounds of the lanes. -/
def HoldLegal (d : Dec) : Prop :=
  d.grants ≤ 16 ∧ (d.heldExpired = true → d.held = true) ∧
  (d.tHeld.isSome = true ↔ d.held = true ∧ lanesNonEmpty d.lanes = true ∧ d.heldExpired = false)

theorem lanesLegal_iff (s : State) : LanesLegal s ↔ LanesBounded s.dec.lanes ∧ HoldLegal s.dec := by
  simp only [LanesLegal, LanesBounded, HoldLegal, and_assoc]

section Kept

variable {l : List Piece} {s t : State} (h : Writes l s t)

include h

theorem Writes.decLanes (hc : .cut ∉ l) (hl : .lanes ∉ l) :
    t.dec.lanes = s.dec.lanes ∧ t.dec.tHeld = s.dec.tHeld := by
  have hcopy : Piece.lanes.copy t s = s := h _ hl
  have hcut := h.cutSlot hc
  constructor
  · calc t.dec.lanes = { t.dec.lanes with cut := s.dec.lanes.cut } := by rw [← hcut]
      _ = s.dec.lanes := congrArg (fun u : State => u.dec.lanes) hcopy
  · exact Eq.trans (b := (Piece.lanes.copy t s).dec.tHeld) rfl (congrArg (fun u : State => u.dec.tHeld) hcopy)

theorem Writes.decHold (hp : .port ∉ l) :
    t.dec.grants = s.dec.grants ∧ t.dec.held = s.dec.held ∧ t.dec.heldExpired = s.dec.heldExpired := by
  have hcopy : { s with
      dec.grants := t.dec.grants, dec.held := t.dec.held, dec.heldExpired := t.dec.heldExpired
      dec.linkHeld := t.dec.linkHeld, dec.sending := t.dec.sending } = s := h _ hp
  obtain ⟨-, -, -, hgrants, hheld, -, hexpired, -⟩ := Dec.mk.inj (congrArg State.dec hcopy)
  exact ⟨hgrants, hheld, hexpired⟩

end Kept

/-- What writes neither the lanes nor the hold keeps the lanes legal. -/
theorem LanesLegal.written {l : List Piece} {s t : State} (h : LanesLegal s) (hw : Writes l s t)
    (hc : .cut ∉ l := by simp) (hl : .lanes ∉ l := by simp) (hp : .port ∉ l := by simp) : LanesLegal t := by
  obtain ⟨hlanes, htimer⟩ := hw.decLanes hc hl
  obtain ⟨hgrants, hheld, hexpired⟩ := hw.decHold hp
  unfold LanesLegal
  rwa [hlanes, htimer, hgrants, hheld, hexpired]

/-- R156: a change of the lanes within their bounds keeps them legal, whatever else of the state has changed with it. -/
theorem LanesLegal.changeLanes {s : State} (h : LanesLegal s) {g : Lanes → Lanes}
    (hg : LanesBounded (g s.dec.lanes)) : LanesLegal (changeLanes g s) := by
  obtain ⟨-, hgrants, hexpired, htimer⟩ := (lanesLegal_iff s).mp h
  exact (lanesLegal_iff _).mpr ⟨hg, hgrants, hexpired, holdTimer_spec s.dec _ _ htimer⟩

theorem LanesLegal.bounded {s : State} (h : LanesLegal s) : LanesBounded s.dec.lanes := ((lanesLegal_iff s).mp h).1

/-! ### Frames placed (R150, R151) -/

theorem LanesLegal.placeLane1 {s : State} (h : LanesLegal s) (f : Frame) : LanesLegal (placeLane1 f s) :=
  h.changeLanes h.bounded

/-- R151: a command takes the place of its load's waiting one. -/
theorem LanesLegal.placeCommand {s : State} (h : LanesLegal s) (i : LoadIx) (f : Frame) :
    LanesLegal (placeCommand i f s) := by
  obtain ⟨hfifo0, hfifo2, hslots⟩ := h.bounded
  refine h.changeLanes ⟨hfifo0, hfifo2, ?_⟩
  have hothers : ((s.dec.lanes.slots.filter fun x => x.1 ≠ i).map Prod.fst).Nodup :=
    hslots.sublist (List.filter_sublist.map _)
  simpa [List.nodup_append] using hothers

theorem LanesLegal.forwardLane0 {s : State} (h : LanesLegal s) (f : Frame) : LanesLegal (forwardLane0 f s) := by
  rcases forwardLane0_spec f s with ⟨hroom, e⟩ | ⟨-, e⟩ <;> rw [e]
  · obtain ⟨-, hrest⟩ := h.bounded
    exact h.changeLanes ⟨by simpa using hroom, hrest⟩
  · exact h.written (writes_errorU _ s)

theorem LanesLegal.forwardLane2 {s : State} (h : LanesLegal s) (f : Frame) : LanesLegal (forwardLane2 f s) := by
  rcases forwardLane2_spec f s with ⟨hroom, e⟩ | ⟨-, e⟩ <;> rw [e]
  · obtain ⟨hfifo0, -, hslots⟩ := h.bounded
    exact h.changeLanes ⟨hfifo0, by simpa using hroom, hslots⟩
  · exact h.written (writes_errorU _ s)

/-- R147, R148: a frame received on Port U is refused, handed over, forwarded or dropped. -/
theorem holds_receiveU (P : State → Prop) {s : State} (h : P s) (hrefused : ∀ c, P (errorU c s))
    (hhanded : ∀ e, P (hand e s)) (hlane0 : ∀ f, P (forwardLane0 f s)) (hlane2 : ∀ f, P (forwardLane2 f s))
    (bytes : List Byte) : P (receiveU bytes s) := by
  have hgeneral : ∀ f, P (forwardGeneral f s) := fun f => by
    unfold forwardGeneral
    split
    · exact holds_ite P (hlane0 f) (holds_ite P (hlane2 f) h)
    · exact h
  unfold receiveU
  split
  · exact hrefused _
  · exact holds_ite P (holds_ite P (hrefused _) (hlane0 _)) <| holds_ite P (holds_ite P (hhanded _) (hrefused _)) <|
      holds_ite P (holds_ite P (hhanded _) (hrefused _)) <| holds_ite P (holds_ite P (hhanded _) (hrefused _)) <|
      holds_ite P (holds_ite P (hhanded _) (holds_ite P (hrefused _) (hlane2 _))) <|
      holds_ite P (holds_ite P (hrefused _) (hgeneral _)) (hrefused _)

theorem LanesLegal.receiveU {s : State} (h : LanesLegal s) (bytes : List Byte) : LanesLegal (receiveU bytes s) :=
  holds_receiveU LanesLegal h (fun c => h.written (writes_errorU c s)) (fun _ => h) h.forwardLane0 h.forwardLane2 bytes

/-! ### Traction -/

theorem LanesLegal.reclip {s : State} (h : LanesLegal s) (p : Int) (reason : LimitReason) :
    LanesLegal (reclip p reason s) := LanesLegal.placeLane1 (s := { s with tau.admitted := p }) h _

theorem LanesLegal.admitDemand {s : State} (h : LanesLegal s) (f : Frame) (d : Int) :
    LanesLegal (admitDemand f d s) := by
  have htau : ∀ u, LanesLegal { s with tau := u } := fun _ => h
  exact (htau _).placeLane1 _

theorem LanesLegal.takeRecord {s : State} (h : LanesLegal s) (r : BudgetRecord) : LanesLegal (takeRecord r s) := by
  have hstored : LanesLegal { s with tau.record := r } := h
  exact holds_ite LanesLegal (hstored.reclip _ _) (holds_ite LanesLegal (hstored.reclip _ _) hstored)

theorem LanesLegal.holdStale {s : State} (h : LanesLegal s) : LanesLegal (holdStale s) := by
  have hstopped : LanesLegal { s with tau.tStale := none } := h
  exact holds_ite LanesLegal hstopped ((hstopped.reclip _ _).written (writes_placeNotice _ _))

theorem LanesLegal.requestCut {s : State} (h : LanesLegal s) (cause : CutCause) : LanesLegal (requestCut cause s) :=
  LanesLegal.changeLanes (s := { s with tau := _ }) h h.bounded

/-! ### Grants, ends of transmission and the hold (R152 to R156) -/

/-- R152: the count is reset at the latest by the grant that finds it at its bound. -/
theorem nextLane_count_le {l : Lanes} {count n : Nat} {lane : Lane} (h : nextLane l count = some (lane, n))
    (hc : count ≤ 16) : n ≤ 16 := by
  have hcount : ∀ {other m}, nextLane l count = some (other, m) → n = m := fun e =>
    (Prod.mk.inj (Option.some.inj (h.symm.trans e))).2
  by_cases ho : Overdue l count
  · exact (hcount (nextLane_overdue ho)).trans_le (Nat.zero_le _)
  have hafter : (if lane2NonEmpty l then count + 1 else 0) ≤ 16 := by
    split
    · rename_i h2
      have hbelow : ¬ 16 ≤ count := fun hle => ho ⟨h2, hle⟩
      omega
    · omega
  cases h0 : lane0NonEmpty l with
  | true => exact (hcount (nextLane_safety ho h0)).trans_le hafter
  | false =>
    cases h1 : l.lane1 with
    | some f => exact (hcount (nextLane_traction ho h0 (by simp [h1]))).trans_le hafter
    | none =>
      cases h2 : lane2NonEmpty l with
      | true => exact (hcount (nextLane_general h2 (.inr ⟨h0, h1⟩))).trans_le (Nat.zero_le _)
      | false => simp [nextLane, h0, h1, h2] at h

/-- R153: a lane that sends a frame keeps the bounds of all. -/
theorem takeFrom_bounded {lane : Lane} {l rest : Lanes} {f : Frame} {isCut : Bool}
    (h : takeFrom lane l = some (f, rest, isCut)) (hl : LanesBounded l) : LanesBounded rest := by
  obtain ⟨hfifo0, hfifo2, hslots⟩ := hl
  cases lane with
  | safety =>
    cases hc : l.cut with
    | some g =>
      rw [takeFrom_cut hc] at h
      cases h
      exact ⟨hfifo0, hfifo2, hslots⟩
    | none =>
      cases hf : l.fifo0 with
      | nil => simp [takeFrom, hc, hf] at h
      | cons g tail =>
        rw [takeFrom_fifo0 hc hf] at h
        cases h
        rw [hf, List.length_cons] at hfifo0
        exact ⟨Nat.le_of_succ_le hfifo0, hfifo2, hslots⟩
  | traction =>
    obtain ⟨g, -, hg⟩ := Option.map_eq_some_iff.mp h
    cases hg
    exact ⟨hfifo0, hfifo2, hslots⟩
  | general =>
    cases hs : l.slots with
    | cons x tail =>
      rw [takeFrom_slots hs] at h
      cases h
      rw [hs] at hslots
      exact ⟨hfifo0, hfifo2, hslots.of_cons⟩
    | nil =>
      cases hf : l.fifo2 with
      | nil => simp [takeFrom, hs, hf] at h
      | cons g tail =>
        rw [takeFrom_fifo2 hs hf] at h
        cases h
        rw [hf, List.length_cons] at hfifo2
        exact ⟨hfifo0, Nat.le_of_succ_le hfifo2, hslots⟩

/-- R152, R155: a grant is made outside a hold, where no hold timer runs. -/
theorem LanesLegal.grant {s : State} (h : LanesLegal s) : LanesLegal (grant s) := by
  by_cases hnone : s.dec.sending ≠ none ∨ s.dec.held = true ∨ lanesNonEmpty s.dec.lanes = false
  · rwa [grant_none s hnone]
  · simp only [not_or, ne_eq, not_not, Bool.not_eq_true, Bool.not_eq_false] at hnone
    obtain ⟨hs, hheld, hl⟩ := hnone
    obtain ⟨lane, count, f, rest, isCut, hn, ht, e⟩ := grant_some s hs hheld hl
    obtain ⟨hbounded, hgrants, hexpired, htimer⟩ := (lanesLegal_iff s).mp h
    rw [e, startPortD_eq]
    refine (lanesLegal_iff _).mpr ⟨takeFrom_bounded ht hbounded, nextLane_count_le hn hgrants, hexpired, ?_⟩
    simpa [granted, hheld] using htimer

theorem LanesLegal.judgeLinkHeld {s : State} (h : LanesLegal s) : LanesLegal (judgeLinkHeld s) := holds_ite LanesLegal h h

theorem LanesLegal.endPortD {s : State} (h : LanesLegal s) (x : PortDTx) : LanesLegal (endPortD x s) := by
  have hfreed : LanesLegal (portFreed x s) := holds_ite LanesLegal h h
  rw [endPortD_eq]
  exact (holds_ite LanesLegal hfreed.judgeLinkHeld hfreed).grant

theorem LanesLegal.holdStart {s : State} (h : LanesLegal s) : LanesLegal { s with
    dec.held := true
    dec.heldExpired := false
    dec.tHeld := if lanesNonEmpty s.dec.lanes then some (tHeld s.mge.params) else none } := by
  obtain ⟨hbounded, hgrants, -, -⟩ := (lanesLegal_iff s).mp h
  refine (lanesLegal_iff _).mpr ⟨hbounded, hgrants, fun _ => rfl, ?_⟩
  cases lanesNonEmpty s.dec.lanes <;> simp

theorem LanesLegal.holdEnd {s : State} (h : LanesLegal s) :
    LanesLegal { s with dec.held := false, dec.heldExpired := false, dec.tHeld := none } := by
  obtain ⟨hbounded, hgrants, -, -⟩ := (lanesLegal_iff s).mp h
  exact (lanesLegal_iff _).mpr ⟨hbounded, hgrants, id, by simp⟩

/-- R156: a hold timer that expires runs in a hold. -/
theorem LanesLegal.holdTimerExpiry {s : State} (h : LanesLegal s) {n : Nat} (hn : s.dec.tHeld = some n) :
    LanesLegal { s with dec.tHeld := none, dec.heldExpired := true, dec.linkHeld := true } := by
  obtain ⟨hbounded, hgrants, -, htimer⟩ := (lanesLegal_iff s).mp h
  obtain ⟨hheld, -, -⟩ := htimer.mp (by simp [hn])
  exact (lanesLegal_iff _).mpr ⟨hbounded, hgrants, fun _ => hheld, by simp⟩

/-! ### Auxiliary loads, the resets and the passing of time -/

theorem keptByAux_lanesLegal : KeptByAux LanesLegal where
  axs _ h := h
  handed _ h := h
  notice _ h := h.written (writes_placeNotice _ _)
  command i f h := h.placeCommand i f
  errorU _ h := h.written (writes_errorU _ _)
  errorD _ h := h.written (writes_errorD _ _)

theorem LanesLegal.swapTable {s : State} (h : LanesLegal s) (t : TableId) : LanesLegal (swapTable t s).1 := by
  cases t with
  | sections => exact h.written (writes_swapSection _ s)
  | aux =>
    simp only [Machine.swapTable]
    exact keptByAux_lanesLegal.swapAux h _
  | profile | parameter | classMap => exact h

/-- R156: empty lanes are legal with the hold timer stopped, whether or not a hold is in effect. -/
theorem lanesLegal_of_empty {t : State} (hl : t.dec.lanes = .empty) (hg : t.dec.grants = 0) (ht : t.dec.tHeld = none)
    (he : t.dec.heldExpired = false) : LanesLegal t := by
  simp [LanesLegal, hl, hg, ht, he, Lanes.empty, lanesNonEmpty, lane0NonEmpty, lane2NonEmpty]

/-- R104, R130, R178: the RESTART cut and the OFF commands are placed in empty lanes. -/
theorem lanesLegal_restartAll (s : State) : LanesLegal (restartAll s) := by
  have hempty : LanesLegal (restartValues s) := lanesLegal_of_empty rfl rfl rfl rfl
  exact keptByAux_lanesLegal.commandAllOff ((hempty.written (writes_placeNotice [8] _)).requestCut .restart)

theorem LanesLegal.tick {s : State} (h : LanesLegal s) : LanesLegal (tick s) := by
  obtain ⟨hbounded, hgrants, hexpired, htimer⟩ := (lanesLegal_iff s).mp h
  refine (lanesLegal_iff _).mpr ⟨hbounded, hgrants, hexpired, ?_⟩
  simpa only [HoldLegal, Machine.tick, Timer.tick, Option.isSome_map] using htimer

/-! ### Every step -/

/-- Every command keeps the lanes legal: those that write them or the hold by what they write, the others by their
footprint. -/
theorem exec_keeps_lanes (c : Instr) (s t : State) (h : LanesLegal s) (hx : exec c s = .next t) : LanesLegal t := by
  by_cases hc : .cut ∉ footprint c ∧ .lanes ∉ footprint c ∧ .port ∉ footprint c
  · obtain ⟨hcut, hlanes, hport⟩ := hc
    exact h.written (exec_writes c s t hx) hcut hlanes hport
  by_cases hload : commandsLoads c = true
  · exact keptByAux_lanesLegal.exec h hload hx
  have htaken : LanesLegal (taken c s) := h
  cases c <;> simp [footprint, commandsLoads, auxPieces, commitPieces, abandonPieces] at hc hload <;>
    obtain rfl : _ = t := Host.Outcome.next.inj hx
  case powerOnReset => exact lanesLegal_of_empty rfl rfl rfl rfl
  case upstreamTxEnd =>
    split
    · exact h
    · exact holds_ite LanesLegal (lanesLegal_restartAll _) h
  case portUFrameReceived => exact holds_ite LanesLegal h (h.receiveU _)
  case tractionDemand => split; exacts [htaken.written (writes_errorU _ _), htaken.admitDemand _ _]
  case budgetRecordAtTau r => exact htaken.takeRecord r
  case cutRequest cause => exact htaken.requestCut cause
  case tStaleExpiry => split; exacts [h, h.holdStale]
  case portDGrant => exact h.grant
  case portDTxEnd => split; exacts [h, h.endPortD _]
  case holdStart => exact holds_ite LanesLegal h h.holdStart
  case holdEnd => exact holds_ite LanesLegal h.holdEnd.judgeLinkHeld.grant h
  case holdTimerExpiry =>
    split
    · exact h
    · rename_i hn
      exact h.holdTimerExpiry hn
  case tableCommit q =>
    exact holds_runRequest LanesLegal (fun hs h1 => hs.written (writes_takeRequest h1))
      (fun _ _ hs => hs.written (writes_respond _ _ _ _))
      (fun hs => holds_tableBody LanesLegal
        (fun t => holds_commitTable LanesLegal (fun _ hs => hs) (fun t hs => hs.swapTable t) q.source t hs) q.args hs)
      .tableCommit h

end Sys2Proof.Machine
end

section
/-! The upstream queue and the request queue stay legal under every step (R158, R162, R164). -/

namespace Sys2Proof.Machine

/-! ### Legal queues -/

/-- R158, R164: what `QueuesLegal` says of group A and of the segments still to be placed. -/
def GroupALegal (l : List GroupA) (toPlace : List Frame) : Prop :=
  l.countP GroupA.isResponse ≤ 4 ∧ (waitingKeys l).Nodup ∧ (toPlace ≠ [] → l.countP GroupA.isResponse = 4)

/-- R158: what `QueuesLegal` says of group B. -/
def GroupBLegal (l : List GroupB) : Prop :=
  l.countP GroupB.isNotice ≤ 8 ∧ l.countP GroupB.isStatus ≤ 16 ∧ l.countP GroupB.isOther ≤ 8 ∧ (waitingPairs l).Nodup

/-- R162: what `QueuesLegal` says of the request queue. -/
def RequestsLegal (l : List ReqEntry) : Prop :=
  l.length ≤ 4 ∧ ∀ source, (l.filter (assemblingOf source)).length ≤ 1

theorem queuesLegal_iff (s : State) : QueuesLegal s ↔
    GroupALegal s.upi.groupA s.mge.toPlace ∧ GroupBLegal s.upi.groupB ∧ RequestsLegal s.mge.queue := by
  simp only [QueuesLegal, GroupALegal, GroupBLegal, RequestsLegal, responseCount]
  tauto

section Kept

variable {s t : State} (h : QueuesLegal s)

include h

theorem QueuesLegal.groupA : GroupALegal s.upi.groupA s.mge.toPlace := ((queuesLegal_iff s).mp h).1
theorem QueuesLegal.groupB : GroupBLegal s.upi.groupB := ((queuesLegal_iff s).mp h).2.1
theorem QueuesLegal.requests : RequestsLegal s.mge.queue := ((queuesLegal_iff s).mp h).2.2

/-- What writes neither queue keeps both legal. -/
theorem QueuesLegal.written {l : List Piece} (hw : Writes l s t) (hu : .upstream ∉ l := by simp)
    (hr : .requests ∉ l := by simp) : QueuesLegal t := by
  have hupi : t.upi = s.upi := Eq.trans (b := (Piece.upstream.copy t s).upi) rfl (congrArg State.upi (hw _ hu))
  have hcopy : { s with
      mge.queue := t.mge.queue, mge.orderCount := t.mge.orderCount, mge.toPlace := t.mge.toPlace
      mge.awaitRestart := t.mge.awaitRestart } = s := hw _ hr
  obtain ⟨hqueue, -, hplace, -⟩ := Mge.mk.inj (congrArg State.mge hcopy)
  rw [queuesLegal_iff, hupi, hqueue, hplace]
  exact (queuesLegal_iff s).mp h

theorem QueuesLegal.withGroupA {l : List GroupA} (hl : GroupALegal l s.mge.toPlace) :
    QueuesLegal { s with upi.groupA := l } := (queuesLegal_iff _).mpr ⟨hl, h.groupB, h.requests⟩

theorem QueuesLegal.withGroupB {l : List GroupB} (hl : GroupBLegal l) : QueuesLegal { s with upi.groupB := l } :=
  (queuesLegal_iff _).mpr ⟨h.groupA, hl, h.requests⟩

theorem QueuesLegal.withQueue {l : List ReqEntry} (hl : RequestsLegal l) : QueuesLegal { s with mge.queue := l } :=
  (queuesLegal_iff _).mpr ⟨h.groupA, h.groupB, hl⟩

/-! ### Group B: notices and frames passed up (R158) -/

theorem QueuesLegal.placeNotice (payload : List Byte) : QueuesLegal (placeNotice payload s) := by
  rcases placeNotice_spec payload s with ⟨hroom, e⟩ | ⟨-, e⟩ <;> rw [e]
  · obtain ⟨-, hstatus, hother, hpairs⟩ := h.groupB
    refine h.withGroupB ⟨?_, ?_, ?_, ?_⟩
    · simpa [GroupB.isNotice] using hroom
    · simpa [GroupB.isStatus] using hstatus
    · simpa [GroupB.isOther] using hother
    · simpa [waitingPairs] using hpairs
  · exact h

end Kept

/-- R158: a status replaced leaves the entries of each kind as many as they were. -/
theorem replaceStatus_counts {f : Frame} {l g : List GroupB} (h : replaceStatus f l = some g) :
    g.map GroupB.isNotice = l.map GroupB.isNotice ∧ g.map GroupB.isStatus = l.map GroupB.isStatus ∧
      g.map GroupB.isOther = l.map GroupB.isOther := by
  induction l generalizing g with
  | nil => cases h
  | cons x rest ih =>
    have hrest : ∀ y, (replaceStatus f rest).map (y :: ·) = some g →
        g.map GroupB.isNotice = (y :: rest).map GroupB.isNotice ∧
        g.map GroupB.isStatus = (y :: rest).map GroupB.isStatus ∧
        g.map GroupB.isOther = (y :: rest).map GroupB.isOther := fun y hy => by
      obtain ⟨g', hg, rfl⟩ := Option.map_eq_some_iff.mp hy
      obtain ⟨hn, hs, ho⟩ := ih hg
      simp only [List.map_cons, hn, hs, ho, and_self]
    cases x with
    | status y =>
      simp only [replaceStatus] at h
      split at h
      · cases h
        exact ⟨rfl, rfl, rfl⟩
      · exact hrest _ h
    | notice y => exact hrest _ h
    | other y => exact hrest _ h

theorem countP_eq_of_map {α : Type} {p : α → Bool} {l m : List α} (h : l.map p = m.map p) : l.countP p = m.countP p := by
  have hcount : ∀ l : List α, l.countP p = (l.map p).countP id := fun l => by rw [List.countP_map]; rfl
  rw [hcount, hcount, h]

theorem QueuesLegal.passUpStatus {s : State} (h : QueuesLegal s) (f : Frame) : QueuesLegal (passUpStatus f s) := by
  obtain ⟨hnotice, hstatus, hother, hpairs⟩ := h.groupB
  rcases passUpStatus_spec f s with ⟨g, hg, e⟩ | ⟨hnone, hroom, e⟩ | ⟨-, -, e⟩ <;> rw [e]
  · obtain ⟨hn, hs, ho⟩ := replaceStatus_counts hg
    obtain ⟨hp, -, -⟩ := replaceStatus_pairs f _ g hg
    refine h.withGroupB ⟨?_, ?_, ?_, ?_⟩
    · rwa [countP_eq_of_map hn]
    · rwa [countP_eq_of_map hs]
    · rwa [countP_eq_of_map ho]
    · rwa [hp]
  · have hfresh := (replaceStatus_none f _).mp hnone
    refine h.withGroupB ⟨?_, ?_, ?_, ?_⟩
    · simpa [GroupB.isNotice] using hnotice
    · simpa [GroupB.isStatus] using hroom
    · simpa [GroupB.isOther] using hother
    · have hconcat : waitingPairs (s.upi.groupB ++ [.status f]) = waitingPairs s.upi.groupB ++ [(f.src, f.cls)] := by
        simp [waitingPairs]
      rw [hconcat, ← List.concat_eq_append]
      exact hpairs.concat hfresh
  · exact h.written (writes_errorD _ s)

theorem QueuesLegal.passUpOther {s : State} (h : QueuesLegal s) (f : Frame) : QueuesLegal (passUpOther f s) := by
  obtain ⟨hnotice, hstatus, -, hpairs⟩ := h.groupB
  rcases passUpOther_spec f s with ⟨hroom, e⟩ | ⟨-, e⟩ <;> rw [e]
  · refine h.withGroupB ⟨?_, ?_, ?_, ?_⟩
    · simpa [GroupB.isNotice] using hnotice
    · simpa [GroupB.isStatus] using hstatus
    · simpa [GroupB.isOther] using hroom
    · simpa [waitingPairs] using hpairs
  · exact h.written (writes_errorD _ s)

theorem QueuesLegal.receiveD {s : State} (h : QueuesLegal s) (bytes : List Byte) : QueuesLegal (receiveD bytes s) := by
  have hrefused : ∀ c, QueuesLegal (errorD c s) := fun c => h.written (writes_errorD c s)
  unfold Machine.receiveD
  split
  · exact hrefused _
  · exact holds_ite QueuesLegal (holds_ite QueuesLegal (h.passUpStatus _) (h.passUpStatus _)) <|
      holds_ite QueuesLegal (h.passUpStatus _) <| holds_ite QueuesLegal (h.passUpOther _) (hrefused _)

theorem QueuesLegal.receiveU {s : State} (h : QueuesLegal s) (bytes : List Byte) : QueuesLegal (receiveU bytes s) := by
  have hlane0 : ∀ f, QueuesLegal (forwardLane0 f s) := fun f => by
    rcases forwardLane0_spec f s with ⟨-, e⟩ | ⟨-, e⟩ <;> rw [e] <;> exact h
  have hlane2 : ∀ f, QueuesLegal (forwardLane2 f s) := fun f => by
    rcases forwardLane2_spec f s with ⟨-, e⟩ | ⟨-, e⟩ <;> rw [e] <;> exact h
  exact holds_receiveU QueuesLegal h (fun _ => h) (fun _ => h) hlane0 hlane2 bytes

/-! ### Group A: alarm frames and responses (R143, R164) -/

theorem GroupALegal.putAlarm {l : List GroupA} {toPlace : List Frame} (h : GroupALegal l toPlace) (key : AlarmKey)
    (f : Frame) : GroupALegal (putAlarm key f l) toPlace := by
  obtain ⟨hresponses, hkeys, hwaiting⟩ := h
  refine ⟨?_, ?_, ?_⟩
  · rwa [responses_putAlarm]
  · rw [waitingKeys_putAlarm]
    split
    · exact hkeys
    · rename_i hfresh
      rw [← List.concat_eq_append]
      exact hkeys.concat hfresh
  · rwa [responses_putAlarm]

theorem waitingKeys_append_responses (l : List GroupA) (frames : List Frame) :
    waitingKeys (l ++ frames.map (GroupA.response · false)) = waitingKeys l := by
  simp [waitingKeys, List.filterMap_map]

/-- R164: whatever segments wait to be placed, the placement leaves none behind a free response entry. -/
theorem placeSegments_legal {s : State} (hresponses : responseCount s ≤ 4) (hkeys : (waitingKeys s.upi.groupA).Nodup)
    (hb : GroupBLegal s.upi.groupB) (hq : RequestsLegal s.mge.queue) : QueuesLegal (placeSegments s) := by
  obtain ⟨hcount, hfull⟩ := placeSegments_spec s hresponses
  refine (queuesLegal_iff _).mpr ⟨⟨hcount, ?_, hfull⟩, hb, hq⟩
  simp only [placeSegments, waitingKeys_append_responses]
  exact hkeys

theorem QueuesLegal.respond {s : State} (h : QueuesLegal s) (dst : Node) (echo : Byte) (reply : Reply) :
    QueuesLegal (respond dst echo reply s) := by
  obtain ⟨hresponses, hkeys, -⟩ := h.groupA
  exact placeSegments_legal (s := { s with mge.toPlace := _ }) hresponses hkeys h.groupB h.requests

/-- R178: the response of RESTART takes a response entry that is free, with no segment waiting. -/
theorem QueuesLegal.answerRestart {s : State} (h : QueuesLegal s) (q : Request) (hplace : s.mge.toPlace = [])
    (hroom : responseCount s < 4) : QueuesLegal (answerRestart q s) := by
  obtain ⟨-, hkeys, -⟩ := h.groupA
  refine (queuesLegal_iff _).mpr ⟨⟨?_, ?_, fun hne => absurd hplace hne⟩, h.groupB, h.requests⟩
  · simpa [Machine.answerRestart, responseCount, GroupA.isResponse] using hroom
  · simpa [Machine.answerRestart, waitingKeys] using hkeys

/-- R159, R164: an entry that leaves group A makes room for a segment where it is a response. -/
theorem QueuesLegal.startUpstream {s : State} (h : QueuesLegal s) : QueuesLegal (startUpstream s) := by
  obtain ⟨hresponses, hkeys, -⟩ := h.groupA
  obtain ⟨hnotice, hstatus, hother, hpairs⟩ := h.groupB
  unfold Machine.startUpstream
  split
  · rename_i x rest ha
    have hrest : rest.Sublist s.upi.groupA := ha ▸ List.sublist_cons_self x rest
    exact placeSegments_legal ((hrest.countP_le).trans hresponses) (hkeys.sublist (hrest.filterMap _)) h.groupB h.requests
  · rename_i x rest _ hb
    have hrest : rest.Sublist s.upi.groupB := hb ▸ List.sublist_cons_self x rest
    have hleft : GroupBLegal rest := ⟨hrest.countP_le.trans hnotice, hrest.countP_le.trans hstatus,
      hrest.countP_le.trans hother, hpairs.sublist (hrest.filterMap _)⟩
    cases x <;> exact h.withGroupB hleft
  · exact h

/-! ### The request queue (R162 to R164) -/

theorem RequestsLegal.sublist {l m : List ReqEntry} (h : RequestsLegal m) (hl : l.Sublist m) : RequestsLegal l :=
  ⟨hl.length_le.trans h.1, fun source => ((hl.filter _).length_le).trans (h.2 source)⟩

/-- A change of entries that starts no assembly of another source. -/
theorem RequestsLegal.map {l : List ReqEntry} (h : RequestsLegal l) {g : ReqEntry → ReqEntry}
    (hg : ∀ source e, assemblingOf source (g e) = assemblingOf source e) : RequestsLegal (l.map g) := by
  refine ⟨by simpa using h.1, fun source => ?_⟩
  rw [List.filter_map, List.length_map, show assemblingOf source ∘ g = assemblingOf source from funext (hg source)]
  exact h.2 source

theorem assemblingOf_tick (source : Node) (e : ReqEntry) : assemblingOf source e.tick = assemblingOf source e := by
  unfold ReqEntry.tick
  split
  · rename_i ha
    simp [assemblingOf, ha]
  · rfl

theorem source_of_assembling {source : Node} {e : ReqEntry} (h : assemblingOf source e = true) : e.source = source := by
  unfold assemblingOf at h
  split at h
  · exact of_decide_eq_true h
  · cases h

/-- R162: a segment that joins an entry starts no assembly: the entry was its source's before. -/
theorem updateAssembling_legal {l : List ReqEntry} (h : RequestsLegal l) {g : ReqEntry → ReqEntry} (source : Node)
    (hg : ∀ e, (g e).source = e.source) : RequestsLegal (updateAssembling source g l) := by
  have hbound : (updateAssembling source g l).length = l.length ∧
      ∀ other, (updateAssembling source g l).countP (assemblingOf other) ≤ l.countP (assemblingOf other) := by
    clear h
    induction l with
    | nil => exact ⟨rfl, fun _ => le_rfl⟩
    | cons e rest ih =>
      obtain ⟨hlength, hcount⟩ := ih
      unfold updateAssembling
      split
      · rename_i he
        refine ⟨rfl, fun other => ?_⟩
        have hsame : assemblingOf other (g e) = true → assemblingOf other e = true := fun ho => by
          rwa [← (source_of_assembling ho), hg, source_of_assembling he]
        simp only [List.countP_cons]
        split
        · rename_i ho
          rw [if_pos (hsame ho)]
        · omega
      · refine ⟨by simp [hlength], fun other => ?_⟩
        simp only [List.countP_cons]
        have := hcount other
        omega
  obtain ⟨hlength, hcount⟩ := hbound
  refine ⟨hlength.trans_le h.1, fun other => ?_⟩
  rw [← List.countP_eq_length_filter]
  exact (hcount other).trans (by rw [List.countP_eq_length_filter]; exact h.2 other)

/-- R162: a first segment takes a free entry where its source assembles no request. -/
theorem RequestsLegal.concat {l : List ReqEntry} (h : RequestsLegal l) {e : ReqEntry} (hroom : l.length < 4)
    (hfree : ¬ l.any (assemblingOf e.source) = true) : RequestsLegal (l ++ [e]) := by
  refine ⟨by simpa using hroom, fun source => ?_⟩
  rw [List.filter_append, List.length_append]
  by_cases he : assemblingOf source e = true
  · have hnone : l.filter (assemblingOf source) = [] := by
      rw [← source_of_assembling he]
      exact List.filter_eq_nil_iff.mpr fun x hx hs => hfree (List.any_eq_true.mpr ⟨x, hx, hs⟩)
    simp [hnone, he]
  · simpa [he] using h.2 source

theorem appendSegment_source (payload : List Byte) (e : ReqEntry) : (appendSegment payload e).source = e.source := by
  unfold appendSegment
  (repeat' split) <;> rfl

theorem QueuesLegal.takeSegment {s : State} (h : QueuesLegal s) (f : Frame) : QueuesLegal (takeSegment f s) := by
  unfold Machine.takeSegment
  dsimp only
  split
  · exact h.withQueue (updateAssembling_legal h.requests f.src fun e => appendSegment_source f.payload e)
  · rename_i hfree
    split
    · rename_i hroom
      exact h.withQueue (h.requests.concat hroom hfree)
    · exact h

theorem QueuesLegal.segmentsDropped {s : State} (h : QueuesLegal s) (source : Node) :
    QueuesLegal (errorU .length { s with mge.queue := s.mge.queue.filter fun e => !assemblingOf source e }) :=
  h.withQueue (h.requests.sublist List.filter_sublist)

theorem QueuesLegal.takeRequest {payload : List Byte} {q : Request} {s t : State} (h : QueuesLegal s)
    (ht : takeRequest payload q s = some t) : QueuesLegal t := by
  obtain ⟨-, -, -, rfl | ⟨e, -, -, -, -, rfl⟩⟩ := takeRequest_spec payload q s t ht
  · exact h
  · exact h.withQueue (h.requests.sublist List.erase_sublist)

/-- R164: a request is taken with a response entry free and no segment waiting, and stays so. -/
theorem takeRequest_free {payload : List Byte} {q : Request} {s t : State} (ht : takeRequest payload q s = some t) :
    t.mge.toPlace = [] ∧ responseCount t < 4 := by
  obtain ⟨hplace, -, hroom, rfl | ⟨_, -, -, -, -, rfl⟩⟩ := takeRequest_spec payload q s t ht
  · exact ⟨hplace, hroom⟩
  · exact ⟨hplace, hroom⟩

/-! ### Alarms -/

theorem QueuesLegal.placeAlarmFrame {s : State} (h : QueuesLegal s) (event : AlarmEvent) (r : AlarmRec) :
    QueuesLegal (placeAlarmFrame event r s) := h.withGroupA (h.groupA.putAlarm r.key _)

theorem QueuesLegal.removeAlarm {s : State} (h : QueuesLegal s) (r : AlarmRec) : QueuesLegal (removeAlarm r s) := by
  rw [Machine.removeAlarm, reportDropAck_eq]
  exact h.placeAlarmFrame .removed r

theorem QueuesLegal.raiseAlarm {s : State} (h : QueuesLegal s) (key : AlarmKey) (acted : Bool) :
    QueuesLegal (raiseAlarm key acted s) := by
  have halm : ∀ alm, QueuesLegal { s with alm := alm } := fun _ => h
  unfold Machine.raiseAlarm
  split
  · exact (halm _).placeAlarmFrame _ _
  · exact (halm _).placeAlarmFrame _ _

theorem QueuesLegal.clearAlarm {s : State} (h : QueuesLegal s) (key : AlarmKey) : QueuesLegal (clearAlarm key s) := by
  have halm : ∀ alm, QueuesLegal { s with alm := alm } := fun _ => h
  unfold Machine.clearAlarm
  split
  · exact h
  · split
    · exact (halm _).placeAlarmFrame _ _
    · exact h.removeAlarm _
    · exact h

theorem QueuesLegal.ackRecord {s : State} (h : QueuesLegal s) (r : AlarmRec) : QueuesLegal (ackRecord r s) := by
  have halm : ∀ alm, QueuesLegal { s with alm := alm } := fun _ => h
  unfold Machine.ackRecord
  split
  · rw [reportDropAck_eq]
    exact (halm _).placeAlarmFrame _ _
  · exact h.removeAlarm r
  · exact h

theorem QueuesLegal.ackBody {s : State} (h : QueuesLegal s) (args : List Byte) : QueuesLegal (ackBody args s).1 := by
  unfold Machine.ackBody
  split
  · split
    · exact holds_foldl QueuesLegal (fun t r => Machine.ackRecord r t) (fun r ht => ht.ackRecord r) s.alm h
    · split
      · exact h
      · exact h.ackRecord _
  · exact h

/-! ### Notices of the other blocks -/

theorem QueuesLegal.publishView {s : State} (h : QueuesLegal s) (v : View) : QueuesLegal (publishView v s) := by
  rcases publishView_spec v s with ⟨-, e⟩ | ⟨-, e⟩ <;> rw [e]
  · exact h
  · have hstored : QueuesLegal (hand (viewEvents v) { s with sct.view := v }) := h
    exact hstored.placeNotice _

theorem QueuesLegal.lookupAndPublish {s : State} (h : QueuesLegal s) : QueuesLegal (lookupAndPublish s) :=
  QueuesLegal.publishView (s := { s with sct.matched := matchStored s }) h _

theorem QueuesLegal.endDeferral {s : State} (h : QueuesLegal s) : QueuesLegal (endDeferral s) := by
  unfold Machine.endDeferral
  split
  · exact h
  · rename_i t _
    have hswapped : QueuesLegal { s with sct.active := t, sct.pendingTbl := none } := h
    exact holds_ite QueuesLegal h (hswapped.placeNotice _)

theorem QueuesLegal.acceptPosition {s : State} (h : QueuesLegal s) (route : Byte) (c : Half) :
    QueuesLegal (acceptPosition route c s) := by
  have hstored : QueuesLegal (positionStored route c s) := h
  rw [acceptPosition_eq]
  exact hstored.endDeferral.lookupAndPublish

theorem QueuesLegal.losePosition {s : State} (h : QueuesLegal s) : QueuesLegal (losePosition s) := by
  have hgone : QueuesLegal (positionGone s) := h
  exact hgone.endDeferral.lookupAndPublish

theorem QueuesLegal.publishMode {s : State} (h : QueuesLegal s) (m : SupplyMode) : QueuesLegal (publishMode m s) := by
  have hstored : ∀ e, QueuesLegal (hand e { s with smc.mode := m }) := fun _ => h
  rcases publishMode_spec m s with ⟨-, e⟩ | ⟨-, e⟩ <;> rw [e]
  · exact h
  · exact (hstored _).placeNotice _

theorem QueuesLegal.evaluate {s : State} (h : QueuesLegal s) : QueuesLegal (evaluate s) := by
  have hlatched : QueuesLegal (latched s) := h
  change QueuesLegal (judgeExposure (Machine.publishMode (evalMode s) (latched s)))
  rw [judgeExposure_spec]
  exact hlatched.publishMode _

theorem QueuesLegal.holdStale {s : State} (h : QueuesLegal s) : QueuesLegal (holdStale s) := by
  have hstopped : QueuesLegal { s with tau.tStale := none } := h
  exact holds_ite QueuesLegal hstopped ((hstopped.written (writes_reclip _ _ _)).placeNotice _)

theorem QueuesLegal.abandonTable {s : State} (h : QueuesLegal s) (cause : AbandonCause) :
    QueuesLegal (abandonTable cause s) := by
  unfold Machine.abandonTable
  split
  · exact h
  · exact ((h.written (writes_closeTable s)).written (writes_discardShadow _ _)).placeNotice _

theorem QueuesLegal.abandonBody {s : State} (h : QueuesLegal s) (source : Node) (t : TableId) :
    QueuesLegal (abandonBody source t s).1 := by
  unfold Machine.abandonBody
  split
  · exact h.abandonTable _
  · exact h

theorem QueuesLegal.setLock {s : State} (h : QueuesLegal s) : QueuesLegal (setLock s) := by
  have habandoned : QueuesLegal (abandonForLock s) := by
    unfold abandonForLock
    split
    · exact h
    · exact holds_ite QueuesLegal (h.abandonTable _) h
  have hplaced : QueuesLegal (lockPlaced s) := habandoned
  exact hplaced.written (setLock_acted s).1.writes

theorem QueuesLegal.lockBody {s : State} (h : QueuesLegal s) (args : List Byte) : QueuesLegal (lockBody args s).1 := by
  unfold Machine.lockBody
  split
  · exact holds_ite QueuesLegal h h.setLock
  · exact h

/-! ### Auxiliary loads, the resets and the passing of time -/

theorem keptByAux_queuesLegal : KeptByAux QueuesLegal where
  axs _ h := h
  handed _ h := h
  notice _ h := h.placeNotice _
  command _ _ h := h
  errorU _ h := h
  errorD _ h := h

theorem QueuesLegal.swapTable {s : State} (h : QueuesLegal s) (t : TableId) : QueuesLegal (swapTable t s).1 := by
  cases t with
  | sections =>
    have hactive : ∀ new, QueuesLegal { s with sct.active := new } := fun _ => h
    simp only [Machine.swapTable, swapSection]
    split
    · exact h
    · split
      · exact h
      · exact (hactive _).lookupAndPublish
  | aux =>
    simp only [Machine.swapTable]
    exact keptByAux_queuesLegal.swapAux h _
  | profile | parameter | classMap => exact h

theorem queuesLegal_of_empty {t : State} (ha : t.upi.groupA = []) (hb : t.upi.groupB = []) (hp : t.mge.toPlace = [])
    (hq : t.mge.queue = []) : QueuesLegal t := by
  simp [QueuesLegal, responseCount, waitingKeys, waitingPairs, ha, hb, hp, hq]

/-- R160, R178, R179: RESTART empties both queues, and its notice is the first entry. -/
theorem queuesLegal_restartAll (s : State) : QueuesLegal (restartAll s) := by
  have hempty : QueuesLegal (restartValues s) := queuesLegal_of_empty rfl rfl rfl rfl
  have hcut : QueuesLegal (restartCutPlaced s) := hempty.placeNotice [8]
  exact keptByAux_queuesLegal.commandAllOff hcut

theorem QueuesLegal.tick {s : State} (h : QueuesLegal s) : QueuesLegal (tick s) :=
  (queuesLegal_iff _).mpr ⟨h.groupA, h.groupB, h.requests.map assemblingOf_tick⟩

/-! ### Every step -/

/-- A request keeps the queues legal where its body does. -/
theorem QueuesLegal.runRequest {s : State} (h : QueuesLegal s) (code : ReqCode) (q : Request)
    {body : State → State × Reply} (hbody : ∀ {s}, QueuesLegal s → QueuesLegal (body s).1) :
    QueuesLegal (runRequest code q body s) :=
  holds_runRequest QueuesLegal (fun hs h1 => hs.takeRequest h1) (fun _ _ hs => hs.respond _ _ _) hbody code h

/-- Every command keeps the queues legal: those that write them by what they write, the others by their footprint. -/
theorem exec_keeps_queues (c : Instr) (s t : State) (h : QueuesLegal s) (hx : exec c s = .next t) : QueuesLegal t := by
  by_cases hc : .upstream ∉ footprint c ∧ .requests ∉ footprint c
  · obtain ⟨hupstream, hrequests⟩ := hc
    exact h.written (exec_writes c s t hx) hupstream hrequests
  by_cases hload : commandsLoads c = true
  · exact keptByAux_queuesLegal.exec h hload hx
  have htaken : QueuesLegal (taken c s) := h
  cases c <;> simp [footprint, commandsLoads, auxPieces, commitPieces, abandonPieces] at hc hload <;>
    obtain rfl : _ = t := Host.Outcome.next.inj hx
  case powerOnReset => exact queuesLegal_of_empty rfl rfl rfl rfl
  case upstreamTxEnd =>
    split
    · exact h
    · exact holds_ite QueuesLegal (queuesLegal_restartAll _) h
  case portUFrameReceived => exact holds_ite QueuesLegal h (h.receiveU _)
  case portDFrameReceived => exact holds_ite QueuesLegal h (h.receiveD _)
  case positionFrame f =>
    split
    · exact htaken
    · exact holds_ite QueuesLegal htaken (htaken.acceptPosition _ _)
  case tPosExpiry => split; exacts [h, h.losePosition]
  case sctParameterCommit => exact holds_ite QueuesLegal (htaken.publishView _) htaken
  case tractionDemand => split; exacts [htaken, htaken]
  case tStaleExpiry => split; exacts [h, h.holdStale]
  case tRaiseExpiry => split; exacts [h, (h.placeNotice _).written (acted_startLowering _ _).writes]
  case poleReport => exact htaken.evaluate
  case sectionViewAtSmc => exact htaken.evaluate
  case poleDropAckReport => exact htaken.evaluate
  case noLineTimerExpiry =>
    have hstopped : QueuesLegal { s with smc.noLine := none } := h
    split; exacts [h, hstopped.publishMode _]
  case alarmRaise key acted => exact htaken.raiseAlarm key acted
  case alarmClear key => exact htaken.clearAlarm key
  case mgmtSegment f => exact htaken.takeSegment f
  case tSegExpiry source => exact holds_ite QueuesLegal (h.segmentsDropped source) h
  case upstreamTxStart => exact holds_ite QueuesLegal h h.startUpstream
  case tOpenExpiry => exact h.abandonTable _
  case readIdent => exact h.runRequest _ _ fun hs => hs.written (writes_readBody _ _ _)
  case readState => exact h.runRequest _ _ fun hs => hs.written (writes_readBody _ _ _)
  case readLoads => exact h.runRequest _ _ fun hs => hs.written (writes_readBody _ _ _)
  case readAlarms => exact h.runRequest _ _ fun hs => hs.written (writes_readBody _ _ _)
  case readErrors q =>
    refine h.runRequest _ _ fun hs => ?_
    unfold readErrorsBody
    split; exacts [hs, hs]
  case ackAlarm => exact h.runRequest _ _ fun hs => hs.ackBody _
  case poleRaise =>
    exact h.runRequest _ _ fun hs => hs.written (writes_polesBody _ (writes_raisePoles · _))
  case poleLower =>
    exact h.runRequest _ _ fun hs => hs.written (writes_polesBody _ (writes_lowerPoles · _))
  case setActMask => exact h.runRequest _ _ fun hs => hs.written (writes_maskBody _ _)
  case tableOpen q =>
    exact h.runRequest _ _ fun hs => hs.written (writes_tableBody _ (writes_openTableFor · q.source _))
  case tableWrite => exact h.runRequest _ _ fun hs => hs.written (writes_writeBody _ _ _)
  case tableRead => exact h.runRequest _ _ fun hs => hs.written (writes_readTableBody _ _)
  case tableCommit q =>
    exact h.runRequest _ _ fun hs => holds_tableBody QueuesLegal
      (fun t => holds_commitTable QueuesLegal (fun _ hs => hs) (fun t hs => hs.swapTable t) q.source t hs) q.args hs
  case tableAbandon q =>
    exact h.runRequest _ _ fun hs => holds_tableBody QueuesLegal (hs.abandonBody q.source) q.args hs
  case lockSettings => exact h.runRequest _ _ fun hs => hs.lockBody _
  case restart q =>
    split
    · exact h
    · rename_i h1
      obtain ⟨hplace, hroom⟩ := takeRequest_free h1
      have h2 := h.takeRequest h1
      exact holds_ite QueuesLegal (h2.respond _ _ _) (h2.answerRestart q hplace hroom)
  case unknownRequest q =>
    refine holds_ite QueuesLegal ?_ h
    split
    · exact h
    · rename_i h1
      exact (h.takeRequest h1).respond _ _ _

/-- Settles O58: a change of the lanes keeps the hold timer as R156 says, an entry joins a queue only where one is free, and
no other command touches the lanes or the queues. -/
theorem queuesStayLegal : Obligations.QueuesStayLegal := by
  refine ⟨fun s t h hs => ?lanes, fun s t h hs => ?queues⟩
  case lanes =>
    rcases step_cases s t hs with ⟨c, rest, -, hx⟩ | ⟨c, -, -, hx⟩ | ⟨-, -, rfl⟩
    · exact exec_keeps_lanes c { s with pending := rest } t h hx
    · exact exec_keeps_lanes c s t h hx
    · exact h.tick
  case queues =>
    rcases step_cases s t hs with ⟨c, rest, -, hx⟩ | ⟨c, -, -, hx⟩ | ⟨-, -, rfl⟩
    · exact exec_keeps_queues c { s with pending := rest } t h hx
    · exact exec_keeps_queues c s t h hx
    · exact h.tick

end Sys2Proof.Machine
end

section
/-! Frames received on Port U (R147, R148, R150, R157): what each class and destination makes of an accepted frame. -/

namespace Sys2Proof.Machine

theorem errorU_eq (c : ErrCode) (s : State) :
    errorU c s = { s with upi.err := tookCode s.upi.err c (errCodeNum c - 1) } := by
  rw [errorU, takeCode_spec]

/-! ### The classes (R148, R157) -/

section Classes

variable {f : Frame} (s : State)

theorem classifyU_cut (hc : f.cls = 0) : classifyU f s =
    if f.dst = partNode s then errorU .classRefused s else forwardLane0 f s := by
  simp [classifyU, hc]

theorem classifyU_demand (hc : f.cls = 1) : classifyU f s =
    if f.dst ≠ 0 ∧ f.dst = inverterNode s.mge.params then hand [.tractionDemand f] s else errorU .classRefused s := by
  simp [classifyU, hc]

theorem classifyU_auxRequest (hc : f.cls = 2) : classifyU f s =
    if f.dst = partNode s then hand [auxRequestEvent f] s else errorU .classRefused s := by
  simp [classifyU, hc]

theorem classifyU_position (hc : f.cls = 4) : classifyU f s =
    if f.dst = partNode s ∨ f.dst = 0 then hand [.positionFrame f] s else errorU .classRefused s := by
  simp [classifyU, hc]

theorem classifyU_segment (hc : f.cls = 5) : classifyU f s =
    if f.dst = partNode s then hand [.mgmtSegment f] s
    else if f.dst = 0 then errorU .classRefused s else forwardLane2 f s := by
  simp [classifyU, hc]

/-- R148: class 3 and classes 6 to 10 are refused whatever their destination. -/
theorem classifyU_refused (hc : f.cls = 3 ∨ 6 ≤ f.cls.toNat ∧ f.cls.toNat ≤ 10) :
    classifyU f s = errorU .classRefused s := by
  have hlow : f.cls ≠ 0 ∧ f.cls ≠ 1 ∧ f.cls ≠ 2 ∧ f.cls ≠ 4 ∧ f.cls ≠ 5 ∧ ¬ 11 ≤ f.cls.toNat := by bv_omega
  obtain ⟨h0, h1, h2, h4, h5, h11⟩ := hlow
  simp only [classifyU, if_neg h0, if_neg h1, if_neg h2, if_neg h4, if_neg h5, if_neg h11]

/-- R157: the class map assigns classes 11 to 15. -/
theorem classifyU_general {k : Fin 5} (hc : f.cls.toNat = k.val + 11) : classifyU f s =
    if f.dst = partNode s then errorU .classRefused s
    else if s.dec.classMap[k] = 1 then forwardLane0 f s
    else if s.dec.classMap[k] = 0 then forwardLane2 f s else s := by
  have hlow : f.cls ≠ 0 ∧ f.cls ≠ 1 ∧ f.cls ≠ 2 ∧ f.cls ≠ 4 ∧ f.cls ≠ 5 ∧ 11 ≤ f.cls.toNat := by bv_omega
  obtain ⟨h0, h1, h2, h4, h5, h11⟩ := hlow
  have hindex : f.cls.toNat - 11 = k.val := by omega
  have hgeneral : forwardGeneral f s =
      if s.dec.classMap[k] = 1 then forwardLane0 f s
      else if s.dec.classMap[k] = 0 then forwardLane2 f s else s := by
    simp only [forwardGeneral, hindex, k.isLt, dif_pos]
    rfl
  simp only [classifyU, if_neg h0, if_neg h1, if_neg h2, if_neg h4, if_neg h5, if_pos h11, hgeneral, decide_eq_true_eq]

end Classes

/-! ### The statement -/

theorem exec_portUFrameReceived_error {bytes : List Byte} {e : ErrCode} {s : State} (hu : s.upi.underWay = false)
    (hp : parseFrame bytes = .error e) : exec (.portUFrameReceived bytes) s = .next (errorU e s) := by
  simp only [exec, execPortUFrameReceived, receiveU, hu, hp, Bool.false_eq_true, if_false]

theorem exec_portUFrameReceived_ok {bytes : List Byte} {f : Frame} {s : State} (hu : s.upi.underWay = false)
    (hp : parseFrame bytes = .ok f) : exec (.portUFrameReceived bytes) s = .next (classifyU f s) := by
  simp only [exec, execPortUFrameReceived, receiveU, hu, hp, Bool.false_eq_true, if_false]

/-- Settles O36: one equation of `classifyU` for each class, and the two FIFOs with room and full. -/
theorem portUFrameClassified : Obligations.PortUFrameClassified := by
  refine ⟨fun bytes s hu => congrArg Host.Outcome.next (if_pos hu), fun bytes e s hu hp => ?refused,
    fun bytes f s hu hp => ?accepted⟩
  case refused => rw [exec_portUFrameReceived_error hu hp, errorU_eq]
  case accepted =>
    intro outcome part fails given forwarded lane0 lane2
    have hexec : ∀ {t}, classifyU f s = t → outcome = .next t := fun e => by
      rw [← e]
      exact exec_portUFrameReceived_ok hu hp
    have hfails : ∀ {c}, classifyU f s = errorU c s → fails c (errCodeNum c - 1) := fun e =>
      hexec (e.trans (errorU_eq _ s))
    have hlane0 : classifyU f s = forwardLane0 f s → lane0 := fun e => by
      rcases forwardLane0_spec f s with ⟨hroom, e0⟩ | ⟨hfull, e0⟩
      · exact ⟨fun _ => ⟨_, hexec (e.trans e0), rfl, rfl⟩, fun hfull => absurd hroom (not_lt.mpr hfull)⟩
      · exact ⟨fun hroom => absurd hroom (not_lt.mpr hfull), fun _ => hfails (e.trans e0)⟩
    have hlane2 : classifyU f s = forwardLane2 f s → lane2 := fun e => by
      rcases forwardLane2_spec f s with ⟨hroom, e2⟩ | ⟨hfull, e2⟩
      · exact ⟨fun _ => ⟨_, hexec (e.trans e2), rfl, rfl⟩, fun hfull => absurd hroom (not_lt.mpr hfull)⟩
      · exact ⟨fun hroom => absurd hroom (not_lt.mpr hfull), fun _ => hfails (e.trans e2)⟩
    have hjudged : ∀ {d : Prop} [Decidable d] {c},
        classifyU f s = (if d then hand [c] s else errorU .classRefused s) → if d then given c else fails .classRefused 2 :=
      fun {d} _ {c} e => by
        split
        · rename_i hd; exact hexec (e.trans (if_pos hd))
        · rename_i hd; exact hfails (e.trans (if_neg hd))
    refine ⟨fun hc => ?cut, fun hc => hjudged (classifyU_demand s hc), fun hc => hjudged (classifyU_auxRequest s hc),
      fun hc => hjudged (classifyU_position s hc), fun hc => ?segment, fun hc => hfails (classifyU_refused s hc),
      fun k hc => ?general⟩
    case cut =>
      have e := classifyU_cut s hc
      split
      · rename_i hd; exact hfails (e.trans (if_pos hd))
      · rename_i hd; exact hlane0 (e.trans (if_neg hd))
    case segment =>
      have e := classifyU_segment s hc
      split
      · rename_i hd; exact hexec (e.trans (if_pos hd))
      · rename_i hd
        rw [if_neg hd] at e
        split
        · rename_i hb; exact hfails (e.trans (if_pos hb))
        · rename_i hb; exact hlane2 (e.trans (if_neg hb))
    case general =>
      have e := classifyU_general s hc
      refine ⟨fun hd => hfails (e.trans (if_pos hd)), fun hd hk => ?_, fun hd hk => ?_, fun hd hk => ?_⟩ <;>
        rw [if_neg hd, hk] at e
      · exact hlane2 e
      · exact hlane0 e
      · exact hexec e

end Sys2Proof.Machine
end

section
/-! Frames received on Port D (R147, R149, R158): a status takes the place of the waiting one of its pair, or the tail of
group B, and what is watched is handed over beside it. -/

namespace Sys2Proof.Machine

/-! ### Status frames (R149, R158) -/

theorem errorD_eq (c : ErrCode) (s : State) :
    errorD c s = { s with dec.err := tookCode s.dec.err c (errCodeNum c - 1) } := by
  rw [errorD, takeCode_spec]

/-- R158: the first waiting status of the pair is the one replaced. -/
theorem replaceStatus_replaces {f g : Frame} {pre post : List GroupB} (hsrc : g.src = f.src) (hcls : g.cls = f.cls)
    (h : (f.src, f.cls) ∉ waitingPairs pre) :
    replaceStatus f (pre ++ .status g :: post) = some (pre ++ .status f :: post) := by
  induction pre with
  | nil => simp [replaceStatus, hsrc, hcls]
  | cons x rest ih =>
    cases x with
    | status y =>
      have hmem : (f.src, f.cls) ∉ (y.src, y.cls) :: waitingPairs rest := h
      rw [List.mem_cons, not_or] at hmem
      have hother : ¬ (y.src = f.src ∧ y.cls = f.cls) := fun e => hmem.1 (by rw [e.1, e.2])
      rw [List.cons_append, replaceStatus, if_neg hother, ih hmem.2]
      rfl
    | notice y => simp only [List.cons_append, replaceStatus, ih h, Option.map_some]
    | other y => simp only [List.cons_append, replaceStatus, ih h, Option.map_some]

theorem passUpStatus_replaced {f : Frame} {s : State} {g : List GroupB} (h : replaceStatus f s.upi.groupB = some g) :
    passUpStatus f s = { s with upi.groupB := g } := by
  simp only [passUpStatus, h]

theorem passUpStatus_room {f : Frame} {s : State} (h : (f.src, f.cls) ∉ waitingPairs s.upi.groupB)
    (hroom : s.upi.groupB.countP GroupB.isStatus < 16) :
    passUpStatus f s = { s with upi.groupB := s.upi.groupB ++ [.status f] } := by
  simp only [passUpStatus, (replaceStatus_none f _).mpr h]
  exact if_pos hroom

theorem passUpStatus_full {f : Frame} {s : State} (h : (f.src, f.cls) ∉ waitingPairs s.upi.groupB)
    (hfull : 16 ≤ s.upi.groupB.countP GroupB.isStatus) : passUpStatus f s = errorD .laneFull s := by
  simp only [passUpStatus, (replaceStatus_none f _).mpr h]
  exact if_neg (Nat.not_lt.mpr hfull)

/-! ### The classes (R149) -/

/-- R149: the status frames that a block watches: every aux status, and the inverter's drive status. -/
def statusEvents (f : Frame) (params : ParamTable) : List Instr :=
  if f.cls = 10 then [.auxStatus f]
  else if f.cls = 9 ∧ f.src = inverterNode params then [.driveStatus f] else []

theorem passUpStatus_mge (f : Frame) (s : State) : (passUpStatus f s).mge = s.mge := by
  rcases passUpStatus_spec f s with ⟨_, -, e⟩ | ⟨-, -, e⟩ | ⟨-, -, e⟩ <;> simp [e]

theorem classifyD_status {f : Frame} (s : State) (hc : f.cls = 9 ∨ f.cls = 10) :
    classifyD f s = hand (statusEvents f s.mge.params) (passUpStatus f s) := by
  rcases hc with hc | hc
  case inl =>
    by_cases hs : f.src = inverterNode s.mge.params
    · simp [classifyD, statusEvents, hc, hs, passUpStatus_mge]
    · simp [classifyD, statusEvents, hc, hs, passUpStatus_mge, hand_nil]
  case inr => simp [classifyD, statusEvents, hc]

theorem classifyD_other {f : Frame} (s : State) (hc : f.cls = 6 ∨ 11 ≤ f.cls.toNat) :
    classifyD f s = passUpOther f s := by
  have hstatus : f.cls ≠ 9 ∧ f.cls ≠ 10 := by bv_omega
  simp only [classifyD, if_neg hstatus.1, if_neg hstatus.2, if_pos hc]

theorem statusEvents_other {f : Frame} (params : ParamTable) (hc : f.cls = 6 ∨ 11 ≤ f.cls.toNat) :
    statusEvents f params = [] := by
  have hstatus : f.cls ≠ 9 ∧ f.cls ≠ 10 := by bv_omega
  rw [statusEvents, if_neg hstatus.2, if_neg fun h => hstatus.1 h.1]

theorem classifyD_refused {f : Frame} (s : State) (hc : f.cls.toNat ≤ 5 ∨ f.cls = 7 ∨ f.cls = 8) :
    classifyD f s = errorD .classRefused s := by
  have hpassed : f.cls ≠ 9 ∧ f.cls ≠ 10 ∧ ¬ (f.cls = 6 ∨ 11 ≤ f.cls.toNat) := by bv_omega
  obtain ⟨h9, h10, hother⟩ := hpassed
  simp only [classifyD, if_neg h9, if_neg h10, if_neg hother]

/-! ### The statement -/

theorem exec_portDFrameReceived_error {bytes : List Byte} {e : ErrCode} {s : State} (hu : s.dec.underWay = false)
    (hp : parseFrame bytes = .error e) : exec (.portDFrameReceived bytes) s = .next (errorD e s) := by
  simp only [exec, execPortDFrameReceived, receiveD, hu, hp, Bool.false_eq_true, if_false]

theorem exec_portDFrameReceived_ok {bytes : List Byte} {f : Frame} {s : State} (hu : s.dec.underWay = false)
    (hp : parseFrame bytes = .ok f) : exec (.portDFrameReceived bytes) s = .next (classifyD f s) := by
  simp only [exec, execPortDFrameReceived, receiveD, hu, hp, Bool.false_eq_true, if_false]

/-- Settles O37: one equation of `classifyD` for each group of classes, and the entries of group B with room and full. -/
theorem portDFrameClassified : Obligations.PortDFrameClassified := by
  refine ⟨fun bytes s hu => congrArg Host.Outcome.next (if_pos hu), fun bytes e s hu hp => ?refused,
    fun bytes f s hu hp => ?accepted⟩
  case refused => rw [exec_portDFrameReceived_error hu hp, errorD_eq]
  case accepted =>
    intro outcome queue watched passed lost
    have hexec : ∀ {t}, classifyD f s = t → outcome = .next t := fun e => by
      rw [← e]
      exact exec_portDFrameReceived_ok hu hp
    have hpassed : ∀ {t l}, classifyD f s = hand watched t → t = { s with upi.groupB := l } → passed l :=
      fun e ht => hexec (e.trans (by rw [ht]; rfl))
    have hlost : ∀ {t}, classifyD f s = hand watched t → t = errorD .laneFull s → lost :=
      fun e ht => hexec (e.trans (by rw [ht, errorD_eq]; rfl))
    refine ⟨fun hc => ?status, fun hc => ?other, fun hc => hexec ((classifyD_refused s hc).trans (errorD_eq _ s))⟩
    case status =>
      have e : classifyD f s = hand watched (passUpStatus f s) := classifyD_status s hc
      refine ⟨fun pre g post hq hsrc hcls hfirst => hpassed e (passUpStatus_replaced ?_),
        fun hfresh hroom => hpassed e (passUpStatus_room hfresh hroom),
        fun hfresh hfull => hlost e (passUpStatus_full hfresh hfull)⟩
      rw [show s.upi.groupB = pre ++ .status g :: post from hq]
      exact replaceStatus_replaces hsrc hcls hfirst
    case other =>
      have hwatched : watched = [] := statusEvents_other s.mge.params hc
      have e : classifyD f s = hand watched (passUpOther f s) := by
        rw [hwatched, hand_nil, classifyD_other s hc]
      rcases passUpOther_spec f s with ⟨hroom, e'⟩ | ⟨hfull, e'⟩
      · exact ⟨fun _ => hpassed e e', fun hfull => absurd hroom (not_lt.mpr hfull)⟩
      · exact ⟨fun hroom => absurd hroom (not_lt.mpr hfull), fun _ => hlost e e'⟩

end Sys2Proof.Machine
end

section
/-! The start of a transmission on Port U (R159, R164): the earliest entry of group A, or else of group B, and the segment
that takes a response entry as it frees. -/

namespace Sys2Proof.Machine

/-! ### Segments placed (R164) -/

/-- R164: no segment is placed where none waits, or where every response entry is occupied. -/
theorem placeSegments_idle {s : State} (h : s.mge.toPlace = [] ∨ responseCount s = 4) : placeSegments s = s := by
  have hsplit : s.mge.toPlace.take (Config.responseEntries - responseCount s) = [] ∧
      s.mge.toPlace.drop (Config.responseEntries - responseCount s) = s.mge.toPlace := by
    rcases h with h | h <;> simp [h, Config.responseEntries]
  simp only [placeSegments, hsplit.1, hsplit.2, List.map_nil, List.append_nil]

/-- R164: one free response entry takes the first segment that waits. -/
theorem placeSegments_one {s : State} (h : responseCount s = 3) : placeSegments s = { s with
    upi.groupA := s.upi.groupA ++ (s.mge.toPlace.take 1).map (GroupA.response · false)
    mge.toPlace := s.mge.toPlace.drop 1 } := by
  simp only [placeSegments, h, Config.responseEntries]

/-! ### The entry that is sent (R159) -/

theorem exec_upstreamTxStart {s : State} (h : s.upi.sending = none) :
    exec .upstreamTxStart s = .next (startUpstream s) := by
  simp only [exec, execUpstreamTxStart, h, Option.isSome_none, Bool.false_eq_true, if_false]

theorem startUpstream_groupA {s : State} {x : GroupA} {rest : List GroupA} (h : s.upi.groupA = x :: rest) :
    startUpstream s = sendGroupA x rest s := by
  simp only [startUpstream, h]

theorem startUpstream_groupB {s : State} {x : GroupB} {rest : List GroupB} (ha : s.upi.groupA = [])
    (hb : s.upi.groupB = x :: rest) : startUpstream s = sendGroupB x rest s := by
  simp only [startUpstream, ha, hb]

/-- The state in which an entry of group A is on the wire and the segments are placed. -/
def startedA (wire : List Byte) (restart : Bool) (rest : List GroupA) (s : State) : State :=
  { s with upi.groupA := rest, upi.sending := some { wire := wire, restart := restart } }

theorem sendGroupA_alarm (key : AlarmKey) (f : Frame) (rest : List GroupA) (s : State) :
    sendGroupA (.alarm key f) rest s = placeSegments (startedA (frameWire f) false rest s) := rfl

theorem sendGroupA_response (f : Frame) (r : Bool) (rest : List GroupA) (s : State) :
    sendGroupA (.response f r) rest s = placeSegments (startedA (frameWire f) r rest s) := rfl

theorem responseCount_startedA (wire : List Byte) (restart : Bool) (rest : List GroupA) (s : State) :
    responseCount (startedA wire restart rest s) = rest.countP GroupA.isResponse := rfl

/-- Settles O40: what starts is the head of group A, or else of group B, and a segment is placed where a response has
left. -/
theorem upstreamStart : Obligations.UpstreamStart := by
  intro s
  refine ⟨fun h => ?none, fun hs => ?_⟩
  case none =>
    by_cases hs : s.upi.sending = none
    · obtain ⟨ha, hb⟩ := h.resolve_left (not_not_intro hs)
      rw [exec_upstreamTxStart hs]
      simp only [startUpstream, ha, hb]
    · exact congrArg Host.Outcome.next (if_pos (Option.isSome_iff_ne_none.mpr hs))
  rw [exec_upstreamTxStart hs]
  refine ⟨fun key f rest ha hidle => congrArg _ ?alarm, fun f r rest ha hfull => congrArg _ ?freed,
    fun f r rest ha hempty => congrArg _ ?response, fun f rest ha hb => congrArg _ ?notice,
    fun x f rest ha hb hx => congrArg _ ?passedUp⟩
  case alarm =>
    rw [startUpstream_groupA ha, sendGroupA_alarm]
    refine placeSegments_idle (hidle.imp_right fun hfull => ?_)
    rwa [responseCount, ha, List.countP_cons_of_neg (by simp [GroupA.isResponse])] at hfull
  case freed =>
    have hleft : rest.countP GroupA.isResponse = 3 := by
      rw [responseCount, ha, List.countP_cons_of_pos rfl] at hfull
      exact Nat.succ.inj hfull
    rw [startUpstream_groupA ha, sendGroupA_response, placeSegments_one ((responseCount_startedA _ _ _ _).trans hleft)]
    rfl
  case response =>
    rw [startUpstream_groupA ha, sendGroupA_response]
    exact placeSegments_idle (.inl hempty)
  case notice => rw [startUpstream_groupB ha hb]; rfl
  case passedUp =>
    rw [startUpstream_groupB ha hb]
    rcases hx with rfl | rfl <;> rfl

end Sys2Proof.Machine
end

section
/-! The request queue (R162, R163): a segment joins the request that its source assembles, starts an entry or is lost, and
T_seg discards what it finds in assembly. -/

namespace Sys2Proof.Machine

/-! ### An entry that takes a further segment (R163) -/

theorem appendSegment_fits {payload : List Byte} {e : ReqEntry}
    (h : ¬ (e.overLength = true ∨ 128 < e.payload.length + payload.length)) :
    appendSegment payload e = { e with payload := e.payload ++ payload } := by
  obtain ⟨hmark, hroom⟩ := not_or.mp h
  exact (if_neg hmark).trans (if_neg hroom)

theorem appendSegment_overLength {payload : List Byte} {e : ReqEntry}
    (h : e.overLength = true ∨ 128 < e.payload.length + payload.length) :
    appendSegment payload e = { e with overLength := true } := by
  by_cases hmark : e.overLength = true
  · rw [appendSegment, if_pos hmark, ← hmark]
  · exact (if_neg hmark).trans (if_pos (h.resolve_left hmark))

/-- R162: the entry that assembles the source's request is the only one that changes. -/
theorem updateAssembling_append {source : Node} {g : ReqEntry → ReqEntry} {pre post : List ReqEntry} {e : ReqEntry}
    (he : assemblingOf source e = true) (hpre : ∀ x ∈ pre, assemblingOf source x = false) :
    updateAssembling source g (pre ++ e :: post) = pre ++ g e :: post := by
  induction pre with
  | nil => exact if_pos he
  | cons x rest ih =>
    obtain ⟨hx, hrest⟩ := List.forall_mem_cons.mp hpre
    simp [updateAssembling, hx, ih hrest]

/-! ### Where a segment goes (R162) -/

section Segment

variable {f : Frame} {s : State}

theorem takeSegment_joined {pre post : List ReqEntry} {e : ReqEntry} (hqueue : s.mge.queue = pre ++ e :: post)
    (he : assemblingOf f.src e = true) (hpre : ∀ x ∈ pre, assemblingOf f.src x = false) :
    takeSegment f s = { s with
      mge.queue := pre ++
        { appendSegment f.payload e with assembly := assemblyAfter (frameContinues f) s.mge.orderCount } :: post
      mge.orderCount := if frameContinues f then s.mge.orderCount else s.mge.orderCount + 1 } := by
  have hany : s.mge.queue.any (assemblingOf f.src) = true := by simp [hqueue, he]
  refine (if_pos hany).trans ?_
  rw [hqueue, updateAssembling_append he hpre]

theorem not_any_assembling (h : ∀ x ∈ s.mge.queue, assemblingOf f.src x = false) :
    ¬ s.mge.queue.any (assemblingOf f.src) = true := by simpa using h

theorem takeSegment_started (hnone : ∀ x ∈ s.mge.queue, assemblingOf f.src x = false) (hroom : s.mge.queue.length < 4) :
    takeSegment f s = { s with
      mge.queue := s.mge.queue ++
        [⟨f.src, f.payload, false, assemblyAfter (frameContinues f) s.mge.orderCount⟩]
      mge.orderCount := if frameContinues f then s.mge.orderCount else s.mge.orderCount + 1 } :=
  (if_neg (not_any_assembling hnone)).trans (if_pos hroom)

theorem takeSegment_lost (hnone : ∀ x ∈ s.mge.queue, assemblingOf f.src x = false) (hfull : 4 ≤ s.mge.queue.length) :
    takeSegment f s = errorU .laneFull s :=
  (if_neg (not_any_assembling hnone)).trans (if_neg hfull.not_gt)

end Segment

/-- Settles O43: the three places a segment can go, the two outcomes of a further one, and the expiry of T_seg. -/
theorem segmentsAssembled : Obligations.SegmentsAssembled := by
  refine ⟨fun f s => ⟨fun pre e post hqueue he hpre => ?joined, fun hnone => ⟨fun hroom => ?started, fun hfull => ?lost⟩⟩,
    fun source s h => ?expired⟩
  case joined =>
    have hjoined := takeSegment_joined (s := taken (.mgmtSegment f) s) hqueue he hpre
    refine ⟨fun hfits => congrArg Host.Outcome.next (hjoined.trans ?_),
      fun hlong => congrArg Host.Outcome.next (hjoined.trans ?_)⟩
    · rw [appendSegment_fits hfits]; rfl
    · rw [appendSegment_overLength hlong]; rfl
  case started =>
    exact congrArg Host.Outcome.next (takeSegment_started (s := taken (.mgmtSegment f) s) hnone hroom)
  case lost =>
    exact congrArg Host.Outcome.next (takeSegment_lost (s := taken (.mgmtSegment f) s) hnone hfull)
  case expired =>
    exact congrArg Host.Outcome.next (if_pos (List.any_eq_true.mpr h))

end Sys2Proof.Machine
end

section
/-! Taking requests (R164, R165): the earliest COMPLETE entry comes first, a request that cannot be taken waits, and one that
is over-length is refused. RESTART's answer (R178) and payloads that name no request stand with them. -/

namespace Sys2Proof.Machine

/-! ### The earliest COMPLETE entry (R164) -/

theorem earliestComplete_mem {l : List ReqEntry} {r : ReqEntry} (h : earliestComplete l = some r) :
    r ∈ l ∧ ∃ k, completeOrder r = some k := by
  induction l with
  | nil => cases h
  | cons x rest ih =>
    simp only [earliestComplete] at h
    split at h
    · exact ⟨List.mem_cons_of_mem _ (ih h).1, (ih h).2⟩
    · next k hx _ => cases h; exact ⟨List.mem_cons_self, k, hx⟩
    · next k y hx hy =>
      split at h <;> cases h
      · exact ⟨List.mem_cons_self, k, hx⟩
      · exact ⟨List.mem_cons_of_mem _ (ih hy).1, (ih hy).2⟩

theorem earliestComplete_eq_none {l : List ReqEntry} (h : ∀ x ∈ l, completeOrder x = none) :
    earliestComplete l = none :=
  Option.eq_none_iff_forall_ne_some.mpr fun r hr => by
    obtain ⟨hmem, k, hk⟩ := earliestComplete_mem hr
    rw [h r hmem] at hk
    cases hk

/-- The entry whose completion order is below that of every other entry is the one MGE takes. -/
theorem earliestComplete_eq_some {l : List ReqEntry} {e : ReqEntry} {n : Nat} (he : e ∈ l)
    (hn : completeOrder e = some n) (hfirst : ∀ x ∈ l, x ≠ e → ∀ k, completeOrder x = some k → n < k) :
    earliestComplete l = some e := by
  induction l with
  | nil => cases he
  | cons x rest ih =>
    obtain ⟨hx, hrest⟩ := List.forall_mem_cons.mp hfirst
    by_cases hxe : x = e
    case pos =>
      subst hxe
      cases hr : earliestComplete rest with
      | none => simp only [earliestComplete, hn, hr]
      | some r =>
        obtain ⟨hmem, k, hk⟩ := earliestComplete_mem hr
        have hle : n ≤ k := by
          by_cases hrx : r = x
          · rw [hrx, hn] at hk
            exact (Option.some.inj hk).le
          · exact (hrest r hmem hrx k hk).le
        simp only [earliestComplete, hn, hr, hk, Option.getD_some, if_pos hle]
    case neg =>
      have hr := ih ((List.mem_cons.mp he).resolve_left (Ne.symm hxe)) hrest
      cases hk : completeOrder x with
      | none => simp only [earliestComplete, hk, hr]
      | some k => simp only [earliestComplete, hk, hr, hn, Option.getD_some, if_neg (hx hxe k hk).not_ge]

/-! ### Whether a request is taken (R164) -/

section Take

variable {payload : List Byte} {q : Request} {s : State} {e : ReqEntry}

theorem mgeReady_iff : mgeReady s = true ↔ s.mge.toPlace = [] ∧ s.mge.awaitRestart = false ∧ responseCount s < 4 := by
  simp only [mgeReady, Bool.and_eq_true, List.isEmpty_iff, Bool.not_eq_true', decide_eq_true_eq, and_assoc]
  exact Iff.rfl

theorem takeRequest_notReady (h : ¬ mgeReady s = true) : takeRequest payload q s = none := if_neg h

theorem takeRequest_first (hready : mgeReady s = true) (he : earliestComplete s.mge.queue = some e)
    (hsame : e.source = q.source ∧ e.payload = payload ∧ e.overLength = q.overLength) :
    takeRequest payload q s = some { s with mge.queue := s.mge.queue.erase e } := by
  simp only [takeRequest, hready, he, if_true, if_pos hsame]

theorem takeRequest_other (he : earliestComplete s.mge.queue = some e)
    (hother : ¬ (e.source = q.source ∧ e.payload = payload ∧ e.overLength = q.overLength)) :
    takeRequest payload q s = none := by
  simp only [takeRequest, he, if_neg hother, ite_self]

theorem takeRequest_completing (hready : mgeReady s = true) (hnone : earliestComplete s.mge.queue = none) :
    takeRequest payload q s = some s := by
  simp only [takeRequest, hready, hnone, if_true]

end Take

/-! ### RESTART (R178) -/

section Restart

variable {q : Request} {s s1 : State}

theorem exec_restart_waits (h : takeRequest (reqCodeNum .restart :: q.args) q s = none) :
    exec (.restart q) s = .next s := by
  simp only [exec, execRestart, h]

theorem exec_restart_refused (ht : Taken .restart q s s1) (h : q.overLength = true ∨ q.args ≠ []) :
    exec (.restart q) s = .next (respond q.source (reqCodeNum .restart) (plain .badField) s1) := by
  rw [Taken] at ht
  simp only [exec, execRestart, ht, if_pos h]

theorem exec_restart_answered (ht : Taken .restart q s s1) (hargs : q.args = []) (hlength : q.overLength = false) :
    exec (.restart q) s = .next (answerRestart q s1) := by
  rw [Taken] at ht
  have h : ¬ (q.overLength = true ∨ q.args ≠ []) := by simp [hargs, hlength]
  simp only [exec, execRestart, ht, if_neg h]

end Restart

/-! ### Requests with a known code (R164, R165) -/

section Known

variable {code : ReqCode} {q : Request} {s s1 : State}

/-- Every known request but RESTART runs through the shared frame of a request, with a body of its own. -/
theorem exec_requestCmd (h : code ≠ .restart) :
    ∃ body, ∀ s, exec (requestCmd code q) s = .next (runRequest code q body s) := by
  cases code
  case restart => exact absurd rfl h
  all_goals exact ⟨_, fun _ => rfl⟩

theorem exec_requestCmd_waits (h : takeRequest (reqCodeNum code :: q.args) q s = none) :
    exec (requestCmd code q) s = .next s := by
  by_cases hcode : code = .restart
  · subst hcode
    exact exec_restart_waits h
  · obtain ⟨body, hexec⟩ := exec_requestCmd hcode
    rw [hexec, runRequest, h]

theorem answered_overLength (ht : Taken code q s s1) (h : q.overLength = true) :
    Answered code q s .badField [] s1 := by
  by_cases hcode : code = .restart
  · subst hcode
    exact exec_restart_refused ht (.inl h)
  · obtain ⟨body, hexec⟩ := exec_requestCmd hcode
    rw [Taken] at ht
    rw [Answered, hexec, runRequest, ht]
    simp only [h, if_true, plain]

end Known

/-- Settles O44: the entry with the least completion order is the one MGE looks at, and a request that is not taken changes
nothing. -/
theorem requestsTakenInOrder : Obligations.RequestsTakenInOrder := by
  refine fun code q s => ⟨fun hbusy => ?busy, fun e n he hn hfirst => ?earliest, fun hnone hfree => ?completing,
    fun s1 ht hlong => answered_overLength ht hlong⟩
  case busy => exact exec_requestCmd_waits (takeRequest_notReady (mt mgeReady_iff.mp hbusy))
  case earliest =>
    have hearliest := earliestComplete_eq_some he hn hfirst
    exact ⟨fun hsame hfree => takeRequest_first (mgeReady_iff.mpr hfree) hearliest hsame,
      fun hother => exec_requestCmd_waits (takeRequest_other hearliest hother)⟩
  case completing => exact takeRequest_completing (mgeReady_iff.mpr hfree) (earliestComplete_eq_none hnone)

/-! ### Payloads that name no request (R165) -/

section Unknown

variable {q : Request} {s s1 : State}

theorem exec_unknownRequest (hunknown : q.unknownPayload = true) (ht : takeRequest q.args q s = some s1) :
    exec (.unknownRequest q) s = .next (respond q.source (unknownReply q).1 (unknownReply q).2 s1) := by
  simp only [exec, execUnknownRequest, hunknown, if_true, ht]

theorem unknownPayload_nil (h : q.args = []) : q.unknownPayload = true := by
  simp only [Request.unknownPayload, h]

theorem unknownPayload_cons {c : Byte} {rest : List Byte} (h : q.args = c :: rest) (hc : c = 0 ∨ 16 < c.toNat) :
    q.unknownPayload = true := by
  simp only [Request.unknownPayload, h, Bool.or_eq_true, decide_eq_true_eq]
  exact hc.imp_left fun h0 => by rw [h0]; rfl

theorem unknownReply_nil (h : q.args = []) : unknownReply q = (0, plain .badField) := by
  simp only [unknownReply, h]

theorem unknownReply_cons {c : Byte} {rest : List Byte} (h : q.args = c :: rest) :
    unknownReply q = (c, plain (if q.overLength then .badField else .unknownRequest)) := by
  simp only [unknownReply, h, apply_ite plain]

end Unknown

/-- Settles O52: RESTART's two answers, and the two kinds of payload that name no request. -/
theorem restartAndUnknownRequests : Obligations.RestartAndUnknownRequests := by
  refine ⟨fun q s s1 ht => ⟨fun h => exec_restart_refused ht h.symm, fun hargs hlength => ?answered⟩,
    fun q s s1 ht => ⟨fun hargs => ?noBytes, fun c rest hargs hc => ?unknownCode⟩⟩
  case answered =>
    obtain ⟨queue, rfl⟩ := taken_frame ht
    exact exec_restart_answered ht hargs hlength
  case noBytes => rw [exec_unknownRequest (unknownPayload_nil hargs) ht, unknownReply_nil hargs]
  case unknownCode => rw [exec_unknownRequest (unknownPayload_cons hargs hc) ht, unknownReply_cons hargs]

end Sys2Proof.Machine
end

section
/-! Responses (R164, R187): a payload is cut into full pieces and a last one, which become the segments of the response. -/

namespace Sys2Proof.Machine

/-- Bytes that fill `n` pieces and reach into the next are cut into `n` full pieces and a last one that is not empty. -/
theorem chunks_full_last {k n : Nat} {bytes : List Byte} (hlow : k * n < bytes.length)
    (hhigh : bytes.length ≤ k * (n + 1)) :
    ∃ full last, chunks k (n + 1) bytes = full ++ [last] ∧ full.flatten ++ last = bytes ∧
      (∀ p ∈ full, p.length = k) ∧ 1 ≤ last.length ∧ last.length ≤ k := by
  induction n generalizing bytes with
  | zero =>
    have hall : bytes.take k = bytes := List.take_of_length_le (by omega)
    exact ⟨[], bytes, by simp [chunks, hall], rfl, by simp, by omega, by omega⟩
  | succ n ih =>
    rw [Nat.mul_succ] at hlow hhigh
    have hrest : (bytes.drop k).length = bytes.length - k := List.length_drop
    obtain ⟨full, last, hcut, hjoin, hfull, hlast⟩ := ih (bytes := bytes.drop k) (by omega) (by omega)
    refine ⟨bytes.take k :: full, last, by rw [chunks, hcut, List.cons_append], ?_, ?_, hlast⟩
    · rw [List.flatten_cons, List.append_assoc, hjoin, List.take_append_drop]
    · exact List.forall_mem_cons.mpr ⟨List.length_take_of_le (by omega), hfull⟩

theorem markSegments_concat (l : List Frame) (f : Frame) :
    markSegments (l ++ [f]) = l.map withContinuation ++ [f] := by
  induction l with
  | nil => rfl
  | cons x rest ih =>
    cases rest with
    | nil => rfl
    | cons y rest => exact congrArg (withContinuation x :: ·) ih

theorem withContinuation_builtFrame (s : State) (dst : Node) (p : List Byte) :
    withContinuation (builtFrame 6 dst (partNode s) p) = { built s 6 dst p with flags := 2 } := by
  simp [withContinuation, builtFrame, built]

/-- R164: every segment but the last is full and has the continuation flag. -/
theorem segmentsOf_full_last (s : State) (dst : Node) {payload : List Byte} (h : payload ≠ []) :
    ∃ (full : List (List Byte)) (last : List Byte), full.flatten ++ last = payload ∧
      (∀ p ∈ full, p.length = 32) ∧ 1 ≤ last.length ∧ last.length ≤ 32 ∧
      segmentsOf s dst payload = full.map (fun p => { built s 6 dst p with flags := 2 }) ++ [built s 6 dst last] := by
  have hpos : 0 < payload.length := List.length_pos_iff.mpr h
  have hcount : (payload.length + 31) / 32 = (payload.length - 1) / 32 + 1 := by omega
  obtain ⟨full, last, hcut, hjoin, hfull, hlow, hhigh⟩ :=
    chunks_full_last (k := 32) (n := (payload.length - 1) / 32) (bytes := payload) (by omega) (by omega)
  refine ⟨full, last, hjoin, hfull, hlow, hhigh, ?_⟩
  rw [segmentsOf, Config.payloadBytes, hcount, hcut, List.map_append, List.map_cons, List.map_nil, markSegments_concat,
    List.map_map]
  simp only [Function.comp_def, withContinuation_builtFrame]
  rfl

/-- Settles O45: the pieces that the payload is cut into are the ones asked for, and as many are placed as there is room. -/
theorem responsePlaced : Obligations.ResponsePlaced := by
  intro dst echo reply s
  obtain ⟨full, last, hjoin, hfull, hlow, hhigh, hsegments⟩ :=
    segmentsOf_full_last s dst (payload := echo :: statusCode reply.status :: reply.fields) (List.cons_ne_nil _ _)
  refine ⟨full ++ [last], by simpa using hjoin, by simpa using hfull, ⟨last, by simp, hlow, hhigh⟩, ?_⟩
  rw [respond, hsegments, List.dropLast_concat, List.getLast?_concat]
  rfl

end Sys2Proof.Machine
end

section
/-! Bytes read back (R183, R188): the valid byte counts by its bit 0 alone, so a section entry is known from its bytes; and
a current fits the 11 bits that are read. -/

namespace Sys2Proof.Machine

/-! ### Section entries (R188) -/

/-- Two section entries whose bytes differ in the first byte's bits 7-1 alone are read alike. -/
theorem readSectionEntry_valid_congr {v w : Byte} (h : v.getLsbD 0 = w.getLsbD 0) (rest : List Byte) :
    readSectionEntry (v :: rest) = readSectionEntry (w :: rest) := by
  unfold readSectionEntry
  split
  next hv =>
    obtain ⟨rfl, rfl⟩ := List.cons.inj hv
    simp only [h]
  next hother =>
    split
    next hw =>
      obtain ⟨rfl, rfl⟩ := List.cons.inj hw
      exact (hother _ _ _ _ _ _ _ _ _ _ _ _ rfl).elim
    next => rfl

theorem readSectionEntry_reserved {e : SectionEntry} {v : Byte} {rest : List Byte} (h : sectionEntryBytes e = v :: rest) :
    readSectionEntry ((v ||| 0xFE) :: rest) = some e := by
  rw [readSectionEntry_valid_congr (w := v) (by simp), ← h, readSectionEntry_bytes]

theorem sectionEntryBytes_injective : Function.Injective sectionEntryBytes := by
  intro a b h
  exact Option.some.inj (by rw [← readSectionEntry_bytes a, h, readSectionEntry_bytes b])

/-! ### Currents (R183, R184) -/

/-- What is read of a current is the low 11 bits of what was sent. -/
theorem setWidth_ofInt16 (i : Int) : (BitVec.ofInt 16 i).setWidth 11 = BitVec.ofInt 11 i := by
  apply BitVec.eq_of_toNat_eq
  simp only [BitVec.toNat_setWidth, BitVec.toNat_ofInt]
  omega

theorem currentPayload_signed16 {i : Int} (hlow : -1023 ≤ i) (hhigh : i ≤ 1023) :
    currentPayload (signed16 i) = some i := by
  have hfits : (BitVec.ofInt 11 i).toInt = i := BitVec.toInt_ofInt_eq_self (by decide) (by omega) (by omega)
  have hcode : i ≠ -1024 := by omega
  simp only [signed16, be16, currentPayload, signedCurrent, half_be16, setWidth_ofInt16, hfits, if_neg hcode]

/-- Settles O48: each entry by the round trip of its own bytes, and the currents because they fit 11 bits. -/
theorem entriesReadBackAsWritten : Obligations.EntriesReadBackAsWritten :=
  ⟨fun e => ⟨rfl, readSectionEntry_bytes e⟩, fun e => ⟨rfl, readAuxEntry_bytes e⟩,
    fun e => ⟨rfl, readProfileEntry_bytes e⟩, fun e => ⟨length_be16 e, readParamEntry_bytes e⟩, fun _ => rfl,
    fun _ _ _ _ h => ⟨readSectionEntry_reserved h, @sectionEntryBytes_injective _ _⟩,
    fun _ => currentPayload_signed16⟩

end Sys2Proof.Machine
end

section
/-! The step on a queue that is not empty (spec 95). -/

namespace Sys2Proof.Machine

/-- Settles O1: the waiting command decides the branch of `step`, so the part's own next action (`idle`) plays no role. -/
theorem stepRunsFrontCommand : Obligations.StepRunsFrontCommand := by
  intro c rest s hqueue
  unfold step
  rw [hqueue]

end Sys2Proof.Machine
end
